-- ==== Sys2Proof/Word.lean ====
section
/-! DEFINITION. Word types of LSP-CORE (spec 00_scope.md R11, R13): every value is an unsigned bit string, bit `i`
has weight `2^i`, and the widths are the ones the operation contracts give. -/

namespace Sys2Proof

/-- Element of every buffer, and the type of `seed`, `control0`, `control1`, `arg1`, `arg2`, `group_id` and the nonce
(R11). -/
abbrev Byte := BitVec 8

/-- Width of the CRC accumulator, of a `CRCTAB` entry and of the `command` operand (R11, R23, R25). -/
abbrev Half := BitVec 16

/-- Width of the whitening register (R24). -/
abbrev Lfsr := BitVec 7

/-- Width of a device identifier (R11). -/
abbrev Ident := BitVec 32

end Sys2Proof
end

