-- ==== Sys2Proof/Config.lean ====
section
/-! DEFINITION. The open parameters of spec 00_scope.md R9 and the free values. `Config` is plain data that a state
carries, so that a statement about every state holds for every value of the parameters; the `opaque` constants are
values no proof can see. -/

namespace Sys2Proof

/-- `HOSTID_BYTE_ORDER` (R9, R172): the order in which the four bytes of `stable_id` reach the CRC. -/
inductive ByteOrder where
  | le
  | be
  deriving DecidableEq, Repr

/-- The six command names the command layer exposes (R9, R84). The block never decodes them. -/
inductive CommandName where
  | pair
  | unpair
  | turnOn
  | turnOff
  | dim
  | gear
  deriving DecidableEq, Repr

/-- The parameters of R9 that some rule of the block reads, apart from `TEMPLATE`, which is a constant memory of
the state (R26). `bufMax = none` is the unbounded `BUF_MAX`. -/
structure Config where
  hostidByteOrder : ByteOrder
  bufMax : Option Nat
  deriving DecidableEq, Repr

/-- The defaults R9 states: little-endian identifier bytes (D13), unbounded `BUF_MAX` (D10). -/
def Config.default : Config := ⟨.le, none⟩

/-- `TEMPLATE`: 32 bytes whose values the spec does not give and no rule assumes (R9, R26, D7). Log entry 4. -/
opaque Config.template : Vector Byte 32

/-- The draws of the nonce source outside the block: the `n`-th draw is any byte, under no law (R32, R154, D6).
Log entry 5. -/
opaque Config.nonceDraw : Nat → Byte

/-- `OPC_*`: the values of the command names, which the spec does not give and the block does not read (R84, D25).
Log entry 8. -/
opaque Config.opcode : CommandName → Half

end Sys2Proof
end

