-- ==== Sys2Proof/Syntax.lean ====
section
/-! DEFINITION. The six operations of LSP-CORE with the operands of spec 10_state.md R21, in the order of each
operation's contract. The fixed length 25 is part of an operand's type (R21, R126, D20). -/

namespace Sys2Proof

/-- One constructor per row of spec/opcode_table.json (R3, R82). -/
inductive Instr where
  /-- `CRC16 buffer, length, offset` (R100): the length stands before the offset. -/
  | crc16 (buffer : List Byte) (length offset : Nat)
  /-- `REVBITS buffer` (R120). -/
  | revbits (buffer : Vector Byte 25)
  /-- `WHITEN buffer, seed` (R130). -/
  | whiten (buffer : List Byte) (seed : Byte)
  /-- `WHITENPKT message` (R139). -/
  | whitenpkt (message : Vector Byte 25)
  /-- `BUILD command, control0, control1, arg1, arg2, group_id` (R150); the nonce is drawn, not an operand (R32). -/
  | build (command : Half) (control0 control1 arg1 arg2 groupId : Byte)
  /-- `HOSTID stable_id` when `idValid`, `HOSTID none` otherwise (R170, R171). -/
  | hostid (idValid : Bool) (stableId : Ident)
  deriving DecidableEq, Repr

end Sys2Proof
end

