-- ==== Sys2Proof/Decode.lean ====
section
/-! DEFINITION. The request format `REQ` (spec 30_encoding.md R82, R85), its decoder, which rejects the two reserved
operation-select values by name (R83), and the encoder. Operands stand beside `op` on ports of their own and are not
packed into a word (R82), so a request is a record of ports and decoding reads the ports its `op` names. -/

namespace Sys2Proof

/-- One request on the ports of the block: `op[2:0]` and the operand ports of R21. An operation reads its own ports
and no other (R85); log entry 14. -/
structure Request where
  op : BitVec 3
  /-- `BUF` of CRC16 and WHITEN (R31). -/
  buffer : List Byte
  length : Nat
  offset : Nat
  /-- The 25 bytes of REVBITS. -/
  buffer25 : Vector Byte 25
  seed : Byte
  /-- The 25 bytes of WHITENPKT. -/
  message : Vector Byte 25
  command : Half
  control0 : Byte
  control1 : Byte
  arg1 : Byte
  arg2 : Byte
  groupId : Byte
  idValid : Bool
  stableId : Ident
  deriving DecidableEq, Repr

/-- The ports with `op` selected and every operand zero or empty. -/
def Request.ofOp (op : BitVec 3) : Request where
  op := op
  buffer := []
  length := 0
  offset := 0
  buffer25 := Vector.replicate 25 0
  seed := 0
  message := Vector.replicate 25 0
  command := 0
  control0 := 0
  control1 := 0
  arg1 := 0
  arg2 := 0
  groupId := 0
  idValid := false
  stableId := 0

/-- What the decoder rejects: `op` 6 and 7, to which no operation is assigned (R83, R193 `ReservedOp`). -/
inductive DecodeError where
  | reservedOp
  deriving DecidableEq, Repr

/-- The operation map of R82: mask `0b111`, match `op`. -/
def decode (r : Request) : Except DecodeError Instr :=
  match r.op.toNat with
  | 0 => .ok (.crc16 r.buffer r.length r.offset)
  | 1 => .ok (.revbits r.buffer25)
  | 2 => .ok (.whiten r.buffer r.seed)
  | 3 => .ok (.whitenpkt r.message)
  | 4 => .ok (.build r.command r.control0 r.control1 r.arg1 r.arg2 r.groupId)
  | 5 => .ok (.hostid r.idValid r.stableId)
  | _ => .error .reservedOp

/-- The operation-select value of an operation (R82). -/
def opOf : Instr → BitVec 3
  | .crc16 _ _ _ => 0b000
  | .revbits _ => 0b001
  | .whiten _ _ => 0b010
  | .whitenpkt _ => 0b011
  | .build _ _ _ _ _ _ => 0b100
  | .hostid _ _ => 0b101

/-- The request that asks for an operation: its `op` and its operands, the other ports at rest. -/
def encode (i : Instr) : Request :=
  let r := Request.ofOp (opOf i)
  match i with
  | .crc16 buffer length offset => { r with buffer := buffer, length := length, offset := offset }
  | .revbits buffer => { r with buffer25 := buffer }
  | .whiten buffer seed => { r with buffer := buffer, seed := seed }
  | .whitenpkt message => { r with message := message }
  | .build command control0 control1 arg1 arg2 groupId =>
    { r with command := command, control0 := control0, control1 := control1, arg1 := arg1, arg2 := arg2,
             groupId := groupId }
  | .hostid idValid stableId => { r with idValid := idValid, stableId := stableId }

/-- The request a table word stands for: the word's bits 2:0 are `op`, which is all the table encodes, and the operand
ports are at rest; bits above 2 belong to no port. Log entry 13. -/
def requestOfWord (w : Nat) : Request := Request.ofOp (BitVec.ofNat 3 w)

/-- The instruction the decoder reads from a table word. -/
def decodeTableWord (_nbits w : Nat) : Option Instr := (decode (requestOfWord w)).toOption

end Sys2Proof
end

