-- ==== Sys2Proof/Machine/State.lean ====
section
/-! DEFINITION. The state of LSP-CORE (spec 10_state.md R20 to R34, R44, R45), what a step can answer, and the state
after reset. -/

namespace Sys2Proof.Machine

/-- A response, one constructor per operation with the result type of R21. It is a value the host owns (R33). -/
inductive Response where
  | crc16 (c : Half)
  | revbits (r : Vector Byte 25)
  | whiten (w : List Byte)
  | whitenpkt (w : Vector Byte 25)
  | packet (pkt : Vector Byte 32)
  | hostid (h0 h1 : Byte)
  deriving DecidableEq, Repr

/-- Everything the spec gives the block, and the host's side of a run.

The spec's state: the constant memories `crctab` (R25) and `template` (R26); the working registers `acc` (R23) and
`lfsr` (R24); the working buffers `msg` (R27), `rev` (R28), `wbuf` (R29), `pkt` (R30) and `idb` (R44, R53). Each index
space has its own field (R44: the spaces are disjoint) and its length is its type.

The model's own: `cfg`, the parameters of R9; `nonceFixture` and `draws`, the nonce input (R32; log entry 5);
`requests`, what the host has issued and the block has not yet taken, in order of issue (R19, R35; log entry 1);
`responses`, what the block has handed back, in order (R19, R33). -/
structure State where
  crctab : Vector Half 256
  template : Vector Byte 32
  acc : Half
  lfsr : Lfsr
  msg : Vector Byte 25
  rev : Vector Byte 25
  wbuf : Vector Byte 38
  pkt : Vector Byte 32
  idb : Vector Byte 4
  cfg : Config
  nonceFixture : List Byte
  draws : Nat
  requests : List Request
  responses : List Response
  deriving DecidableEq, Repr

/-- The synchronous exceptions and other faults of the block: none (R190, R191: "the list is empty"). Nothing raises
one, and nothing is lost by that: safe. -/
inductive Fault where
  deriving DecidableEq, Repr

/-- The closed list of refusal reasons (R193). A refusal gives the request no meaning: no response, no state, and the
run ends (R192), so each of them is safe. -/
inductive Refusal where
  /-- An instruction whose meaning is not written. Raised by an arm of `exec` only; safe. -/
  | notModelled (mnemonic : String)
  /-- `op` 6 or 7. Raised by `step` when the decoder rejects the request (R83); safe. -/
  | reservedOp
  /-- `len(BUF) > BUF_MAX` where `BUF_MAX` is bounded. Raised by CRC16 and WHITEN (R83); safe. -/
  | bufTooLong
  /-- `offset + length > len(BUF)`. Raised by CRC16 (R105); safe. -/
  | crcRange
  /-- `command > 0x00FF`. Raised by BUILD (R161); safe. -/
  | commandRange
  /-- `group_id > 15`. Raised by BUILD (R161); safe. -/
  | groupRange
  deriving DecidableEq, Repr

/-- What one step or one instruction answers. -/
abbrev Answer := Host.Outcome State Fault Refusal

/-- After reset (R45, R220): the constant memories hold their constants; the working registers and buffers, whose
values the spec leaves unspecified, hold zero (DESIGN CHOICE, log entry 3); the parameters have the defaults of R9 (log
entries 6 and 7); nothing has been issued, drawn or answered. -/
def State.reset : State where
  crctab := crcTable
  template := Config.template
  acc := 0
  lfsr := 0
  msg := Vector.replicate 25 0
  rev := Vector.replicate 25 0
  wbuf := Vector.replicate 38 0
  pkt := Vector.replicate 32 0
  idb := Vector.replicate 4 0
  cfg := Config.default
  nonceFixture := []
  draws := 0
  requests := []
  responses := []

end Sys2Proof.Machine
end

