-- ==== Sys2Proof/Machine/Ops.lean ====
section
/-! DEFINITION. The named operations on the state of LSP-CORE: one write per register and per buffer, the response, the
nonce draw, and the loops of the CRC unit (spec 40_crc.md), the bit-reversal unit (41_bitrev.md) and the whitening unit
(42_whiten.md) that several operations share. The block takes no exception (60_exceptions.md R190, R197), so there is no
entry and no return here; a request without a meaning is refused by its own meaning (R192). -/

namespace Sys2Proof.Machine

/-! ### Writes, one per piece of state -/

/-- `ACC <- v` (R23). -/
def State.setAcc (s : State) (v : Half) : State := { s with acc := v }

/-- `LFSR <- v` (R24). -/
def State.setLfsr (s : State) (v : Lfsr) : State := { s with lfsr := v }

/-- `MSG[0..24]` becomes `v` (R27). -/
def State.setMsg (s : State) (v : Vector Byte 25) : State := { s with msg := v }

/-- `REV[0..24]` becomes `v` (R28). -/
def State.setRev (s : State) (v : Vector Byte 25) : State := { s with rev := v }

/-- `WBUF[0..37]` becomes `v` (R29). -/
def State.setWbuf (s : State) (v : Vector Byte 38) : State := { s with wbuf := v }

/-- `PKT[0..31]` becomes `v` (R30). -/
def State.setPkt (s : State) (v : Vector Byte 32) : State := { s with pkt := v }

/-- `IDB[0..3]` becomes `v` (R44, R172). -/
def State.setIdb (s : State) (v : Vector Byte 4) : State := { s with idb := v }

/-- `MemWrite(MSG + k, 1, v)` (R53): the index is in range by its type. -/
def State.writeMsg (s : State) (k : Fin 25) (v : Byte) : State := s.setMsg (s.msg.set k.val v)

/-- The response is handed to the host by value, after the earlier ones, which it does not change (R33). -/
def State.respond (s : State) (r : Response) : State := { s with responses := s.responses ++ [r] }

/-- The host issues a request: it is served after those already issued (R19, R61). -/
def State.issue (s : State) (r : Request) : State := { s with requests := s.requests ++ [r] }

/-- The block takes the request at the head of the sequence; `rest` is what stays. -/
def State.setRequests (s : State) (rest : List Request) : State := { s with requests := rest }

/-! ### The nonce draw -/

/-- The byte the next `draw_u8()` yields (R16, R154): the one a test fixture supplies where there is one (R32), else a
free value. -/
def State.nextNonce (s : State) : Byte :=
  match s.nonceFixture with
  | n :: _ => n
  | [] => Config.nonceDraw s.draws

/-- One draw has been made (R32: sampled exactly once per BUILD). -/
def State.advanceNonce (s : State) : State :=
  { s with nonceFixture := s.nonceFixture.tail, draws := s.draws + 1 }

/-! ### The CRC unit -/

/-- `CRC_INIT` (R8, R23). -/
def crcInit : Half := 0xFFFF

/-- The index of `CRCTAB` in a byte step, `acc[15:8] XOR b` (R102). -/
def crcIndex (acc : Half) (b : Byte) : Byte := acc.extractLsb' 8 8 ^^^ b

/-- The byte step `crc_step(acc, b)` of R102 over the table `tab`. -/
def crcStep (tab : Vector Half 256) (acc : Half) (b : Byte) : Half :=
  tab[(crcIndex acc b).toNat]'(crcIndex acc b).isLt ^^^ (acc <<< 8)

/-- The value of `ACC` after the byte steps over `bytes` in order (R100, R103). -/
def crcOver (tab : Vector Half 256) (bytes : List Byte) : Half := bytes.foldl (crcStep tab) crcInit

/-- The bytes `BUF[offset], …, BUF[offset + length - 1]` that CRC16 reads, in this order (R54). -/
def slice (buf : List Byte) (length offset : Nat) : List Byte := (buf.drop offset).take length

/-- `crc16(BUF, length, offset)` of R100, for a range inside the buffer. -/
def crc16 (tab : Vector Half 256) (buf : List Byte) (length offset : Nat) : Half :=
  crcOver tab (slice buf length offset)

/-- The CRC unit runs over a range of a buffer: `ACC` ends as the checksum (R34, R103). -/
def State.runCrc (s : State) (buf : List Byte) (length offset : Nat) : State :=
  s.setAcc (crc16 s.crctab buf length offset)

/-! ### The bit-reversal unit -/

/-- `rev8(b)` of R121: bit `i` of the result is bit `7 - i` of `b`. -/
def rev8 (b : Byte) : Byte := BitVec.ofFnLE fun i : Fin 8 => b.getLsbD (7 - i.val)

/-- `reverse_bits(X)` of R120: each byte by itself, byte order kept. -/
def reverseBits (x : Vector Byte 25) : Vector Byte 25 := Vector.ofFn fun k => rev8 x[k]

/-! ### The whitening unit -/

/-- The keystream bit of a step, `LFSR[6]` before the advance (R132). -/
def keyBit (l : Lfsr) : Bool := l.getLsbD 6

/-- The advance `lfsr_next` of R133: the bit leaving bit 6 is XORed into bit 4 and enters bit 0 (D12, log entry 12). -/
def lfsrNext (l : Lfsr) : Lfsr := if keyBit l then (l <<< 1) ^^^ 0b0010001 else l <<< 1

/-- The state after `n` advances. -/
def lfsrAdvance : Nat → Lfsr → Lfsr
  | 0, l => l
  | n + 1, l => lfsrAdvance n (lfsrNext l)

/-- The body of the inner loop of R130 for bit `j` of the byte `b`, on the pair (`LFSR`, `y`): the keystream bit is
taken, `y[j]` is written, then the register advances. -/
def whitenBit (b : Byte) (p : Lfsr × Byte) (j : Nat) : Lfsr × Byte :=
  (lfsrNext p.1, if b.getLsbD j ^^ keyBit p.1 then p.2 ||| BitVec.twoPow 8 j else p.2)

/-- The inner loop of R130, bits 0 to 7 of one byte (R134): the register after it, and the output byte. -/
def whitenByte (l : Lfsr) (b : Byte) : Lfsr × Byte := (List.range 8).foldl (whitenBit b) (l, 0)

/-- The outer loop of R130, bytes in increasing index (R134): the register after it, and the output bytes. -/
def whitenFrom : Lfsr → List Byte → Lfsr × List Byte
  | l, [] => (l, [])
  | l, b :: bs =>
    let one := whitenByte l b
    let more := whitenFrom one.1 bs
    (more.1, one.2 :: more.2)

/-- The initial register state, `seed[6:0]` (R131). -/
def seedState (seed : Byte) : Lfsr := seed.setWidth 7

/-- `whiten(X, seed)` of R130, with the register it leaves. -/
def whiten (x : List Byte) (seed : Byte) : Lfsr × List Byte := whitenFrom (seedState seed) x

/-- `WH_SEED` (R8, R143). -/
def whSeed : Byte := 83

/-- `WH_PAD` zero bytes and then the message, the 38 bytes of format `WBUF` (R77, R139, R140). -/
def stage (m : Vector Byte 25) : Vector Byte 38 :=
  Vector.ofFn fun t : Fin 38 => if h : t.val < 13 then 0 else m[t.val - 13]

/-- Whitening keeps the length of its buffer (R31). -/
@[simp] theorem whitenFrom_length (l : Lfsr) (x : List Byte) : (whitenFrom l x).2.length = x.length := by
  induction x generalizing l with
  | nil => rfl
  | cons b bs ih => simp [whitenFrom, ih]

/-- `V = whiten(WBUF[0..37], 83)` (R139). -/
def whitenStaged (wbuf : Vector Byte 38) : Vector Byte 38 :=
  ⟨(whiten wbuf.toList whSeed).2.toArray, by simp [whiten]⟩

/-- `w = V[13..37]` (R139). -/
def unstage (v : Vector Byte 38) : Vector Byte 25 := Vector.ofFn fun k : Fin 25 => v[13 + k.val]

/-- `whiten_for_packet(M)` of R139. -/
def whitenForPacket (m : Vector Byte 25) : Vector Byte 25 := unstage (whitenStaged (stage m))

/-- The whitening unit runs over a buffer: `LFSR` ends where the bit loop leaves it (R24, R34). -/
def State.runWhiten (s : State) (x : List Byte) (seed : Byte) : State := s.setLfsr (whiten x seed).1

/-- The whitening unit runs for a packet: all of `WBUF` is staged (R140), then the unit runs over its content with
`WH_SEED` (R139). -/
def State.runWhitenForPacket (s : State) (m : Vector Byte 25) : State :=
  (s.setWbuf (stage m)).runWhiten (stage m).toList whSeed

end Sys2Proof.Machine
end

