-- ==== Sys2Proof/Machine/Operands.lean ====
section
/-! DEFINITION. Operand checks (spec 30_encoding.md R83, 60_exceptions.md R193) and operand assembly (R74 to R76,
44_hostid.md R171, R172). -/

namespace Sys2Proof.Machine

/-- `len(BUF) > BUF_MAX`, only where `BUF_MAX` is bounded (R83). -/
def bufTooLong (cfg : Config) (buf : List Byte) : Bool :=
  match cfg.bufMax with
  | none => false
  | some m => m < buf.length

/-- `offset + length > len(BUF)`, a comparison of natural numbers (R105). -/
def outsideBuffer (buf : List Byte) (length offset : Nat) : Bool := buf.length < offset + length

/-- `command > 0x00FF` (R161). -/
def commandTooWide (command : Half) : Bool := 0xFF < command.toNat

/-- `group_id > 15` (R161). -/
def groupTooLarge (groupId : Byte) : Bool := 15 < groupId.toNat

/-- `command[7:0]`, which goes to `MSG[11]` (R76). -/
def opcodeByte (command : Half) : Byte := command.extractLsb' 0 8

/-- `(control1 AND 0xF0) OR (group_id AND 0x0F)`, which goes to `MSG[13]` (R74). -/
def hostGroupByte (control1 groupId : Byte) : Byte := (control1 &&& 0xF0) ||| (groupId &&& 0x0F)

/-- `(v >> 8) AND 0xFF`, the most significant byte of a checksum (R55, R75). -/
def hiByte (v : Half) : Byte := v.extractLsb' 8 8

/-- `v AND 0xFF`, the least significant byte of a checksum (R55, R75). -/
def loByte (v : Half) : Byte := v.extractLsb' 0 8

/-- `FALLBACK_ID` (R8, R171). -/
def fallbackId : Ident := 0xCAFEBABE

/-- The identifier HOSTID works on (R171). -/
def effectiveId (idValid : Bool) (stableId : Ident) : Ident := if idValid then stableId else fallbackId

/-- `id_byte(id, t)` of R172 for either value of `HOSTID_BYTE_ORDER`. -/
def idByte (order : ByteOrder) (id : Ident) (t : Fin 4) : Byte :=
  match order with
  | .le => id.extractLsb' (8 * t.val) 8
  | .be => id.extractLsb' (8 * (3 - t.val)) 8

/-- `IDB[0..3]` (R172). -/
def idBytes (order : ByteOrder) (id : Ident) : Vector Byte 4 := Vector.ofFn (idByte order id)

end Sys2Proof.Machine
end

