-- ==== Sys2Proof/Machine/Bitrev.lean ====
section
/-! DEFINITION. The operation REVBITS (spec 41_bitrev.md). -/

namespace Sys2Proof.Machine

/-- `REVBITS buffer` (R120, R122): every element of `REV` is written and the response is its content; no refusal. -/
def execRevbits (buffer : Vector Byte 25) (s : State) : Answer :=
  let s1 := s.setRev (reverseBits buffer)
  .next (s1.respond (.revbits s1.rev))

end Sys2Proof.Machine
end

