-- ==== Sys2Proof/Machine/Builder.lean ====
section
/-! DEFINITION. The operation BUILD (spec 43_builder.md): the six steps of R151, each an operation on the state. -/

namespace Sys2Proof.Machine

/-- Step 1 (R152): `MSG[k] = TEMPLATE[6 + k]` for every `k`. -/
def State.buildCopy (s : State) : State := s.setMsg (Vector.ofFn fun k : Fin 25 => s.template[6 + k.val])

/-- Step 2 (R153, R154): the fields, then the drawn nonce. -/
def State.buildFields (s : State) (command : Half) (control0 control1 arg1 arg2 groupId : Byte) : State :=
  let s1 := s.writeMsg 11 (opcodeByte command)
  let s2 := s1.writeMsg 12 control0
  let s3 := s2.writeMsg 13 (hostGroupByte control1 groupId)
  let s4 := s3.writeMsg 14 arg1
  let s5 := s4.writeMsg 15 arg2
  let n := s5.nextNonce
  s5.advanceNonce.writeMsg 17 n

/-- Step 3 (R155): the checksum of `MSG[11..22]`, stored most significant byte first. -/
def State.buildCrc (s : State) : State :=
  let s1 := s.runCrc s.msg.toList 12 11
  (s1.writeMsg 23 (hiByte s1.acc)).writeMsg 24 (loByte s1.acc)

/-- Step 4 (R156). -/
def State.buildReverse (s : State) : State := s.setRev (reverseBits s.msg)

/-- The framing of step 6 (R157): header, 25 body bytes, trailer. -/
def frame (template : Vector Byte 32) (w : Vector Byte 25) : Vector Byte 32 :=
  Vector.ofFn fun t : Fin 32 =>
    if h : 6 ≤ t.val ∧ t.val < 31 then w[t.val - 6] else template[t]

/-- Steps 5 and 6 (R156, R157): `REV` is whitened for the packet and the result framed. -/
def State.buildFrame (s : State) : State :=
  (s.runWhitenForPacket s.rev).setPkt (frame s.template (whitenForPacket s.rev))

/-- The six steps in their order (R151). -/
def State.buildPacket (s : State) (command : Half) (control0 control1 arg1 arg2 groupId : Byte) : State :=
  (s.buildCopy.buildFields command control0 control1 arg1 arg2 groupId).buildCrc.buildReverse.buildFrame

/-- `BUILD command, control0, control1, arg1, arg2, group_id` (R150): refused before any step and before the draw when
`command` or `group_id` is out of range, in this order (R161, R194, R195); else the response is `PKT`. -/
def execBuild (command : Half) (control0 control1 arg1 arg2 groupId : Byte) (s : State) : Answer :=
  if commandTooWide command then .refused .commandRange
  else if groupTooLarge groupId then .refused .groupRange
  else
    let s1 := s.buildPacket command control0 control1 arg1 arg2 groupId
    .next (s1.respond (.packet s1.pkt))

end Sys2Proof.Machine
end

