-- ==== Sys2Proof/Machine/Crc.lean ====
section
/-! DEFINITION. The operation CRC16 (spec 40_crc.md). -/

namespace Sys2Proof.Machine

/-- `CRC16 buffer, length, offset` (R100, R105): refused before any byte is read when the buffer is too long or the
range leaves it, in this order (R195); else the response is `ACC` after the last byte step. -/
def execCrc16 (buffer : List Byte) (length offset : Nat) (s : State) : Answer :=
  if bufTooLong s.cfg buffer then .refused .bufTooLong
  else if outsideBuffer buffer length offset then .refused .crcRange
  else
    let s1 := s.runCrc buffer length offset
    .next (s1.respond (.crc16 s1.acc))

end Sys2Proof.Machine
end

