-- ==== Sys2Proof/Machine/Hostid.lean ====
section
/-! DEFINITION. The operation HOSTID (spec 44_hostid.md). -/

namespace Sys2Proof.Machine

/-- `HOSTID stable_id` and `HOSTID none` (R170): the checksum of the four identifier bytes (R172, R173), most
significant byte first; no refusal. -/
def execHostid (idValid : Bool) (stableId : Ident) (s : State) : Answer :=
  let s1 := s.setIdb (idBytes s.cfg.hostidByteOrder (effectiveId idValid stableId))
  let s2 := s1.runCrc s1.idb.toList 4 0
  .next (s2.respond (.hostid (hiByte s2.acc) (loByte s2.acc)))

end Sys2Proof.Machine
end

