-- ==== Sys2Proof/Machine/Whiten.lean ====
section
/-! DEFINITION. The operations WHITEN and WHITENPKT (spec 42_whiten.md). -/

namespace Sys2Proof.Machine

/-- `WHITEN buffer, seed` (R130): refused only when the buffer is longer than a bounded `BUF_MAX` (R83). -/
def execWhiten (buffer : List Byte) (seed : Byte) (s : State) : Answer :=
  if bufTooLong s.cfg buffer then .refused .bufTooLong
  else .next ((s.runWhiten buffer seed).respond (.whiten (whiten buffer seed).2))

/-- `WHITENPKT message` (R139): no refusal. -/
def execWhitenpkt (message : Vector Byte 25) (s : State) : Answer :=
  .next ((s.runWhitenForPacket message).respond (.whitenpkt (whitenForPacket message)))

end Sys2Proof.Machine
end

