-- ==== Sys2Proof/Machine/Dispatch.lean ====
section
/-! DEFINITION. The meaning of each operation, one arm per constructor of Instr. -/

namespace Sys2Proof.Machine

def exec (i : Instr) (s : State) : Host.Outcome State Fault Refusal :=
  match i with
  | .crc16 buffer length offset => Sys2Proof.Machine.execCrc16 buffer length offset s
  | .revbits buffer => Sys2Proof.Machine.execRevbits buffer s
  | .whiten buffer seed => Sys2Proof.Machine.execWhiten buffer seed s
  | .whitenpkt message => Sys2Proof.Machine.execWhitenpkt message s
  | .build command control0 control1 arg1 arg2 groupId => Sys2Proof.Machine.execBuild command control0 control1 arg1 arg2 groupId s
  | .hostid idValid stableId => Sys2Proof.Machine.execHostid idValid stableId s

end Sys2Proof.Machine
end

