-- ==== Sys2Proof/Machine/Step.lean ====
section
/-! DEFINITION. One step of a run (spec 00_scope.md R19): the block takes the request at the head of the host's
sequence, and serves it whole. -/

namespace Sys2Proof.Machine

/-- With nothing issued the block waits and nothing changes (R45; log entry 2). A request the decoder rejects is refused
(R83); any other is executed with the request taken off the sequence. -/
def step (s : State) : Host.Outcome State Fault Refusal :=
  match s.requests with
  | [] => .next s
  | r :: rest =>
    match decode r with
    | .error .reservedOp => .refused .reservedOp
    | .ok i => exec i (s.setRequests rest)

/-- `s` with the request of a table word put at the head of the host's sequence, where `step` takes its next request;
nothing else changes. Log entry 13. -/
def State.withFetchWord (s : State) (_nbits w : Nat) : State := s.setRequests (requestOfWord w :: s.requests)

end Sys2Proof.Machine
end

