-- ==== Sys2Proof/Machine/HostSide.lean ====
section
/-! DEFINITION. What the host does around the block, as far as the spec states it: the pseudo-operations of spec
30_encoding.md R87, the strip of the packet's first byte (R81, R183, R226), the host's own assembly of a Message and of
a frame (R164), and the listing of a request (R86). None of this is an operation of the block. -/

namespace Sys2Proof.Machine

/-- `DEWHITEN buf, seed` (R87). -/
def dewhiten (buffer : List Byte) (seed : Byte) : Instr := .whiten buffer seed

/-- `UNREVBITS buf25` (R87). -/
def unrevbits (buffer : Vector Byte 25) : Instr := .revbits buffer

/-- `HOSTID.DEFAULT`, that is `HOSTID none` (R87); the identifier port is ignored (R170). -/
def hostidDefault : Instr := .hostid false 0

/-- `PAYLOAD pkt` (R87): the 31 bytes `PKT[1..31]` the host hands to the radio (R81, R183). -/
def payload (pkt : Vector Byte 32) : Vector Byte 31 := Vector.ofFn fun k : Fin 31 => pkt[1 + k.val]

/-- `BUILD.H command, (h0, h1), arg1, arg2, group_id` (R87, R175). -/
def buildH (command : Half) (host : Byte × Byte) (arg1 arg2 groupId : Byte) : Instr :=
  .build command host.1 host.2 arg1 arg2 groupId

/-- `PKT[6..30]`, the body of a packet (R78). -/
def packetBody (pkt : Vector Byte 32) : Vector Byte 25 := Vector.ofFn fun k : Fin 25 => pkt[6 + k.val]

/-- The Message a host forms for itself by R152 and R153, before the checksum (R164). -/
def hostMessage (template : Vector Byte 32) (command : Half) (control0 control1 arg1 arg2 groupId nonce : Byte) :
    Vector Byte 25 :=
  ((((((Vector.ofFn fun k : Fin 25 => template[6 + k.val]).set 11 (opcodeByte command)).set 12 control0).set 13
    (hostGroupByte control1 groupId)).set 14 arg1).set 15 arg2).set 17 nonce

/-- The host stores a checksum into a Message, most significant byte first (R164, R75). -/
def hostStoreCrc (m : Vector Byte 25) (c : Half) : Vector Byte 25 := (m.set 23 (hiByte c)).set 24 (loByte c)

/-! ### Listings (R86) -/

/-- One hexadecimal digit. -/
def hexDigit (n : Nat) : Char := ("0123456789ABCDEF".toList).getD n '?'

/-- Two hexadecimal digits of a byte. -/
def hexByte (b : Byte) : List Char := [hexDigit (b.toNat / 16), hexDigit (b.toNat % 16)]

/-- A byte buffer in braces, two digits a byte, index 0 first (R86). -/
def listBytes (bytes : List Byte) : List Char :=
  Char.ofNat 123 :: (List.intercalate [' '] (bytes.map hexByte) ++ [Char.ofNat 125])

/-- A number in decimal (R13). -/
def listNat (n : Nat) : List Char := Nat.toDigits 10 n

/-- Operands separated by commas (R86). -/
def listOperands (operands : List (List Char)) : List Char := List.intercalate ", ".toList operands

/-- A request as R86 writes it: the mnemonic and the operands in the source's order. Log entry 20. -/
def listing : Instr → List Char
  | .crc16 buffer length offset => "CRC16 ".toList ++ listOperands [listBytes buffer, listNat length, listNat offset]
  | .revbits buffer => "REVBITS ".toList ++ listBytes buffer.toList
  | .whiten buffer seed => "WHITEN ".toList ++ listOperands [listBytes buffer, listNat seed.toNat]
  | .whitenpkt message => "WHITENPKT ".toList ++ listBytes message.toList
  | .build command control0 control1 arg1 arg2 groupId =>
    "BUILD ".toList ++ listOperands ([command.toNat, control0.toNat, control1.toNat, arg1.toNat, arg2.toNat,
      groupId.toNat].map listNat)
  | .hostid true stableId => "HOSTID ".toList ++ listNat stableId.toNat
  | .hostid false _ => "HOSTID none".toList

end Sys2Proof.Machine
end

