-- ==== Sys2Proof/WellFormed.lean ====
section
/-! DEFINITION. Which requests are inside the contract: the conditions of spec 45_command_layer.md R182 and of
60_exceptions.md R193, one check each, written apart from the meanings that refuse. -/

namespace Sys2Proof

/-- A host buffer no longer than `BUF_MAX`, where an implementation bounds it (R83, R193 `BufTooLong`). -/
def bufferFits (cfg : Config) (buffer : List Byte) : Bool :=
  match cfg.bufMax with
  | none => true
  | some m => buffer.length ≤ m

/-- `offset + length ≤ len(BUF)` on natural numbers (R105, R193 `CrcRange`). -/
def rangeInside (buffer : List Byte) (length offset : Nat) : Bool :=
  offset + length ≤ buffer.length

/-- `command ≤ 0x00FF` (R161, R193 `CommandRange`). -/
def commandInRange (command : Half) : Bool := command ≤ 0x00FF#16

/-- `group_id ≤ 15` (R161, R193 `GroupRange`). -/
def groupInRange (groupId : Byte) : Bool := groupId ≤ 15#8

/-- The request is inside the contract (R182, R193); REVBITS, WHITENPKT and HOSTID admit every operand. -/
def Instr.wellFormed (cfg : Config) : Instr → Bool
  | .crc16 buffer length offset => bufferFits cfg buffer && rangeInside buffer length offset
  | .revbits _ => true
  | .whiten buffer _ => bufferFits cfg buffer
  | .whitenpkt _ => true
  | .build command _ _ _ _ groupId => commandInRange command && groupInRange groupId
  | .hostid _ _ => true

/-- A bounded `BUF_MAX` is at least 38 (R9). -/
def Config.legal (cfg : Config) : Bool :=
  match cfg.bufMax with
  | none => true
  | some m => 38 ≤ m

end Sys2Proof
end

