-- ==== Sys2Proof/Safety.lean ====
section
/-! DEFINITION. The terms claims are stated in: the named premises of spec 45_command_layer.md R188, reference forms
that the spec gives beside its pseudocode (the bit-serial CRC of R106, the keystream of R135 and R141), and the
invariant of the whole machine. No step reads anything of this file. -/

namespace Sys2Proof.Machine

/-! ### Answers -/

/-- What the host sees of an answer: the last response of a next state, or the refusal. -/
def replyOf : Answer → Except Refusal (Option Response)
  | .next s => .ok s.responses.getLast?
  | .refused r => .error r
  | .fault f => nomatch f

/-! ### Premises (R188) -/

/-- `NoRefusal`: every request of the run is inside the contract (R182). -/
def NoRefusal (s : State) : Prop :=
  ∀ r ∈ s.requests, ∃ i, decode r = .ok i ∧ i.wellFormed s.cfg = true

/-- `ConfigFixed` between two states: the parameters and the constant memories have one value (R35, R64). -/
def ConfigFixed (s t : State) : Prop := t.cfg = s.cfg ∧ t.template = s.template ∧ t.crctab = s.crctab

/-- `TPL_ZERO_FILL` (R10). -/
def TplZeroFill (template : Vector Byte 32) : Prop :=
  template[22] = 0 ∧ template[24] = 0 ∧ template[25] = 0 ∧ template[26] = 0 ∧ template[27] = 0 ∧ template[28] = 0

/-- `NonceIs(n)`: the value the next draw takes (R188, R86), wherever the draw takes it from (log entry 5). -/
def NonceIs (n : Byte) (s : State) : Prop := s.nextNonce = n

/-! ### Refusal reasons (R193, R195) -/

/-- The reason for which a request is refused, if it is: the conditions of R193 over the request's ports, the first that
holds in the order of R195. Written apart from the decoder and the meanings. -/
def refusalOf (cfg : Config) (r : Request) : Option Refusal :=
  if r.op = 6 ∨ r.op = 7 then some .reservedOp
  else if (r.op = 0 ∨ r.op = 2) ∧ bufferFits cfg r.buffer = false then some .bufTooLong
  else if r.op = 0 ∧ rangeInside r.buffer r.length r.offset = false then some .crcRange
  else if r.op = 4 ∧ commandInRange r.command = false then some .commandRange
  else if r.op = 4 ∧ groupInRange r.groupId = false then some .groupRange
  else none

/-! ### Reference forms -/

/-- The bit-serial byte step of R106. -/
def crcBitSerialStep (acc : Half) (b : Byte) : Half := crcShift8 (acc ^^^ (b.setWidth 16 <<< 8))

/-- The CRC of R106 over a byte sequence: initial value `0xFFFF`, no final XOR. -/
def crcBitSerial (bytes : List Byte) : Half := bytes.foldl crcBitSerialStep 0xFFFF

/-- `ks(s, n)` of R135: the whitening of `n` zero bytes. -/
def keystream (seed : Byte) (n : Nat) : List Byte := (whiten (List.replicate n 0) seed).2

/-- `KP[0..24]`, as R141 lists it. -/
def keyPad : Vector Byte 25 :=
  #v[0x77, 0xF8, 0xE3, 0x46, 0xE9, 0xAB, 0xD0, 0x9E, 0x53, 0x33, 0xD8, 0xBA, 0x98,
     0x08, 0x24, 0xCB, 0x3B, 0xFC, 0x71, 0xA3, 0xF4, 0x55, 0x68, 0xCF, 0xA9]

/-! ### The machine's invariant -/

/-- The packet a response carries, if it is one of BUILD. -/
def packetOf : Response → Option (Vector Byte 32)
  | .packet p => some p
  | _ => none

/-- The packet of the last BUILD of the run. -/
def lastPacket (responses : List Response) : Option (Vector Byte 32) := (responses.filterMap packetOf).getLast?

/-- The Message inside a packet, by the pipeline backwards (R125, R142; program P4 of 95_test_vectors.md). -/
def messageInside (pkt : Vector Byte 32) : Vector Byte 25 := reverseBits (whitenForPacket (packetBody pkt))

/-- What holds of every packet the block hands out: header and trailer are the template's (R78), the Message inside
carries the template's preamble (R73), and its checksum residue is zero (R107 (c)). -/
structure PacketSound (tab : Vector Half 256) (template pkt : Vector Byte 32) : Prop where
  header : ∀ t : Fin 32, t.val < 6 → pkt[t] = template[t]
  trailer : pkt[31] = template[31]
  preamble : ∀ k : Fin 25, k.val ≤ 10 → (messageInside pkt)[k] = template[6 + k.val]
  residue : crc16 tab (messageInside pkt).toList 14 11 = 0

/-- The invariant: `CRCTAB` has its content (R25); every packet handed out is sound; and `PKT` and `MSG` still hold the
packet and the Message of the last BUILD (R34). -/
structure RunInv (s : State) : Prop where
  table : s.crctab = crcTable
  packets : ∀ p, Response.packet p ∈ s.responses → PacketSound s.crctab s.template p
  last : ∀ p, lastPacket s.responses = some p → s.pkt = p ∧ messageInside p = s.msg

end Sys2Proof.Machine
end

