-- ==== Sys2Proof/Certificates/Slice0/Obligations.lean ====
section
/-! DEFINITION. The statements for the provers. A statement that fixes a checksum has the premise
`s.crctab = crcTable`: `CRCTAB` stands in the state, and that it has its content and keeps it are statements of their
own (ResetHoldsTheConstantsAndNothingIsPending, ConstantsAndParametersNeverChange). -/

open Sys2Proof Sys2Proof.Machine

/-- For every operation and every value of its operands, the decoder reads from the encoder's request exactly that
operation: no operand is dropped or swapped between ports. (30_encoding.md R82, 30_encoding.md R85.) -/
def Obligations.DecodeOfEncodeGivesTheOperation : Prop :=
  ∀ i : Instr, decode (encode i) = .ok i

/-- op 0 to 5 decode to CRC16, REVBITS, WHITEN, WHITENPKT, BUILD, HOSTID with the operands of their own ports in
contract order; op 6 and op 7 are rejected as ReservedOp. (30_encoding.md R82, 30_encoding.md R83, 10_state.md R21.) -/
def Obligations.OperationMapReadsTheNamedPorts : Prop :=
  ∀ r : Request,
    (r.op = 0b000 → decode r = .ok (.crc16 r.buffer r.length r.offset)) ∧
    (r.op = 0b001 → decode r = .ok (.revbits r.buffer25)) ∧
    (r.op = 0b010 → decode r = .ok (.whiten r.buffer r.seed)) ∧
    (r.op = 0b011 → decode r = .ok (.whitenpkt r.message)) ∧
    (r.op = 0b100 → decode r = .ok (.build r.command r.control0 r.control1 r.arg1 r.arg2 r.groupId)) ∧
    (r.op = 0b101 → decode r = .ok (.hostid r.idValid r.stableId)) ∧
    (r.op = 0b110 → decode r = .error .reservedOp) ∧
    (r.op = 0b111 → decode r = .error .reservedOp)

/-- The words 000, 010, 100 and 101 of the operation map, with operand ports at rest, decode to CRC16, WHITEN, BUILD and
HOSTID; 110 and 111 decode to nothing. R82 gives the op values and says only that operands are not packed into a
word; that a table word forms a request whose operand ports are at rest (empty buffer, zero bytes and numbers,
id_valid 0) is the model's choice, log entry 13. (30_encoding.md R82, 30_encoding.md R83, assumption log entry 13.) -/
def Obligations.SampleWordsDecodeAsTheTableSays : Prop :=
  decodeTableWord 8 0b000 = some (.crc16 [] 0 0) ∧
    decodeTableWord 8 0b010 = some (.whiten [] 0) ∧
    decodeTableWord 8 0b100 = some (.build 0 0 0 0 0 0) ∧
    decodeTableWord 8 0b101 = some (.hostid false 0) ∧
    decodeTableWord 8 0b110 = none ∧ decodeTableWord 8 0b111 = none

/-- When the host's sequence starts with a request that decodes to i, the step is the meaning of i at the same state
with that request taken off the sequence; the step adds nothing else. (00_scope.md R19, 20_memory.md R61,
30_encoding.md R82.) -/
def Obligations.StepRunsTheDecodedRequest : Prop :=
  ∀ (s : State) (r : Request) (rest : List Request) (i : Instr),
    s.requests = r :: rest → decode r = .ok i → step s = exec i { s with requests := rest }

/-- ReservedOp is raised by the decoder for op 6 and op 7 and for nothing else: no operation answers with it.
(30_encoding.md R83, 60_exceptions.md R193.) -/
def Obligations.StepRefusesExactlyTheReservedOps : Prop :=
  ∀ s : State, step s = .refused .reservedOp ↔
    ∃ r rest, s.requests = r :: rest ∧ (r.op = 6 ∨ r.op = 7)

/-- With an empty sequence the step answers the same state. That waiting is a step at all is the model's choice (log
entry 2); that the block waits is R45. (10_state.md R45, 00_scope.md R19, assumption log entry 2.) -/
def Obligations.StepWaitsWhenNothingIsIssued : Prop :=
  ∀ s : State, s.requests = [] → step s = .next s

/-- Under the premise NoRefusal the run takes as many steps as requests were issued, ends in a next state with none
left, and the responses are the earlier ones followed by one new response per request. (45_command_layer.md R188,
70_reset_and_hazards.md R233, 00_scope.md R19.) -/
def Obligations.AdmittedRunAnswersEveryRequest : Prop :=
  ∀ s : State, NoRefusal s →
    ∃ t, Sys2Proof.core.run s.requests.length s = .next t ∧ t.requests = [] ∧
      t.responses.length = s.responses.length + s.requests.length ∧
      ∃ new, t.responses = s.responses ++ new

/-- When the requests issued are pre, then r, then post, every request of pre decodes to an operation inside the
contract, and r has a reason of R193 (the first in the order of R195), then the run serves pre, one response each,
with r and post still untaken; the next step is refused with that reason, and a run of any greater length gives the
same refusal, so nothing of post is served. That the refused outcome carries no state, which is the mark of R192, is
the model's reading, log entry 9. (00_scope.md R19, 60_exceptions.md R192, 60_exceptions.md R193, 60_exceptions.md
R195, assumption log entry 9.) -/
def Obligations.RunEndsAtTheFirstRefusal : Prop :=
  ∀ (s : State) (pre post : List Request) (r : Request) (why : Refusal),
    s.requests = pre ++ r :: post →
    (∀ q ∈ pre, ∃ i, decode q = .ok i ∧ i.wellFormed s.cfg = true) →
    refusalOf s.cfg r = some why →
    (∃ t, Sys2Proof.core.run pre.length s = .next t ∧ t.requests = r :: post ∧
      t.responses.length = s.responses.length + pre.length) ∧
    ∀ k : Nat, Sys2Proof.core.run (pre.length + 1 + k) s = .refused why

/-- CRC16 is admitted exactly for a buffer within BUF_MAX and a range inside it, WHITEN for a buffer within BUF_MAX,
BUILD for command at most 0xFF and group_id at most 15, and REVBITS, WHITENPKT and HOSTID always. (60_exceptions.md
R193, 45_command_layer.md R182.) -/
def Obligations.AdmittedExactlyInsideTheContract : Prop :=
  ∀ (i : Instr) (s : State), (∃ t, exec i s = .next t) ↔ i.wellFormed s.cfg = true

/-- A buffer longer than a bounded BUF_MAX refuses CRC16 and WHITEN as BufTooLong whatever the range; otherwise offset +
length > len(BUF) refuses CRC16 as CrcRange. (40_crc.md R105, 30_encoding.md R83, 60_exceptions.md R195.) -/
def Obligations.BufferRefusalsAndTheirPriority : Prop :=
  ∀ (s : State) (buffer : List Byte),
    (∀ m length offset seed, s.cfg.bufMax = some m → m < buffer.length →
      exec (.crc16 buffer length offset) s = .refused .bufTooLong ∧
      exec (.whiten buffer seed) s = .refused .bufTooLong) ∧
    (∀ length offset, (∀ m, s.cfg.bufMax = some m → buffer.length ≤ m) → buffer.length < offset + length →
      exec (.crc16 buffer length offset) s = .refused .crcRange)

/-- command above 0x00FF is refused with reason CommandRange, also when group_id is out of range too; an admitted
command with group_id above 15 is refused with reason GroupRange. Nothing is masked, saturated or wrapped. (R161.) -/
def Obligations.BuildRefusesCommandAndGroupOutOfRange : Prop :=
  ∀ (s : State) (command : Half) (control0 control1 arg1 arg2 groupId : Byte),
    (0x00FF < command.toNat →
      exec (.build command control0 control1 arg1 arg2 groupId) s = .refused .commandRange) ∧
    (command.toNat ≤ 0x00FF → 15 < groupId.toNat →
      exec (.build command control0 control1 arg1 arg2 groupId) s = .refused .groupRange)

/-- The responses after an operation are the earlier ones, unchanged, and one new response of the result type the
contract gives that operation; WHITEN keeps the buffer's length; an operation takes no further request. (10_state.md
R21, 10_state.md R33, 00_scope.md R19.) -/
def Obligations.OneResponseOfTheRightKindPerRequest : Prop :=
  ∀ (i : Instr) (s t : State), exec i s = .next t →
    t.requests = s.requests ∧
    match i with
    | .crc16 _ _ _ => ∃ c, t.responses = s.responses ++ [.crc16 c]
    | .revbits _ => ∃ r, t.responses = s.responses ++ [.revbits r]
    | .whiten buffer _ => ∃ w, t.responses = s.responses ++ [.whiten w] ∧ w.length = buffer.length
    | .whitenpkt _ => ∃ w, t.responses = s.responses ++ [.whitenpkt w]
    | .build _ _ _ _ _ _ => ∃ p, t.responses = s.responses ++ [.packet p]
    | .hostid _ _ => ∃ h0 h1, t.responses = s.responses ++ [.hostid h0 h1]

/-- From every state, a step that answers a next state leaves the two constant memories and the parameters as they were.
(10_state.md R25, 10_state.md R26, 20_memory.md R64, 45_command_layer.md R188.) -/
def Obligations.ConstantsAndParametersNeverChange : Prop :=
  ∀ s t : State, step s = .next t → ConfigFixed s t

/-- The reset state holds the generated table and the TEMPLATE parameter, HOSTID_BYTE_ORDER = LE and an unbounded
BUF_MAX (the defaults of R9), no request and no response. Nothing is said of the working storage, whose reset values
the spec leaves unspecified. (10_state.md R45, 70_reset_and_hazards.md R220, 00_scope.md R9.) -/
def Obligations.ResetHoldsTheConstantsAndNothingIsPending : Prop :=
  State.reset.crctab = crcTable ∧ State.reset.template = Config.template ∧
    State.reset.cfg.hostidByteOrder = .le ∧ State.reset.cfg.bufMax = none ∧
    State.reset.requests = [] ∧ State.reset.responses = []

/-- MSG and PKT change under BUILD only, REV under REVBITS and BUILD, WBUF under WHITENPKT and BUILD, IDB under HOSTID,
ACC under CRC16, BUILD and HOSTID, LFSR under WHITEN, WHITENPKT and BUILD. (20_memory.md R51, 20_memory.md R53,
10_state.md R23, 10_state.md R24.) -/
def Obligations.WorkingStorageTouchedOnlyByItsOperations : Prop :=
  ∀ (i : Instr) (s t : State), exec i s = .next t →
    (t.msg = s.msg ∨ opOf i = 0b100) ∧ (t.pkt = s.pkt ∨ opOf i = 0b100) ∧
    (t.rev = s.rev ∨ opOf i = 0b100 ∨ opOf i = 0b001) ∧
    (t.wbuf = s.wbuf ∨ opOf i = 0b100 ∨ opOf i = 0b011) ∧
    (t.idb = s.idb ∨ opOf i = 0b101) ∧
    (t.acc = s.acc ∨ opOf i = 0b000 ∨ opOf i = 0b100 ∨ opOf i = 0b101) ∧
    (t.lfsr = s.lfsr ∨ opOf i = 0b010 ∨ opOf i = 0b011 ∨ opOf i = 0b100)

/-- An admitted BUILD draws exactly once; CRC16, REVBITS, WHITEN, WHITENPKT and HOSTID draw nothing. How the model
counts draws and holds a fixture's bytes is log entry 5. (10_state.md R32, 43_builder.md R154.) -/
def Obligations.NonceDrawnExactlyOncePerBuild : Prop :=
  ∀ (i : Instr) (s t : State), exec i s = .next t →
    if opOf i = 0b100 then t.draws = s.draws + 1 ∧ t.nonceFixture = s.nonceFixture.tail
    else t.draws = s.draws ∧ t.nonceFixture = s.nonceFixture

/-- Two states that agree in CRCTAB, TEMPLATE, the parameters and the next nonce give equal replies (equal responses or
the same refusal) to every operation, whatever their working registers and buffers, their pending requests and their
earlier responses. (10_state.md R20, 10_state.md R34, 70_reset_and_hazards.md R221, 20_memory.md R61.) -/
def Obligations.RepliesIgnoreWorkingStorageAndHistory : Prop :=
  ∀ (i : Instr) (s s' : State),
    s.crctab = s'.crctab → s.template = s'.template → s.cfg = s'.cfg → s.nextNonce = s'.nextNonce →
    replyOf (exec i s) = replyOf (exec i s')

/-- From every state with the invariant, any step gives a state with it. The invariant: CRCTAB has its content; every
packet among the responses has the template's header and trailer, and the Message inside it (whitening and reversal
undone) has the template's preamble and checksum residue zero; PKT equals the last packet handed out, and MSG the
Message inside that packet. (10_state.md R25, 10_state.md R30, 10_state.md R34, 40_crc.md R107, 30_encoding.md R78,
43_builder.md R157.) -/
def Obligations.EveryStepKeepsTheRunInvariant : Prop :=
  ∀ s t : State, RunInv s → step s = .next t → RunInv t

/-- After reset CRCTAB has its content and no packet has been handed out. (10_state.md R25, 10_state.md R45.) -/
def Obligations.RunInvariantHoldsAtReset : Prop :=
  RunInv State.reset

/-- CRCTAB after reset is, entry by entry, the listing of R104, and each entry b is eight rounds of the rule of R101
from b << 8: the high bit tested, the shift truncated to 16 bits, the polynomial XORed in when the bit was set.
(R101, R104.) -/
def Obligations.CrcTableIsTheListing : Prop :=
  State.reset.crctab.toList = crcTableListing ∧ crcTableListing.length = 256 ∧
    ∀ b : Fin 256, State.reset.crctab[b] = crcShift8 ((BitVec.ofNat 8 b.val).setWidth 16 <<< 8) ∧
      ∀ r : Half, crcShift r = if r.getLsbD 15 then (r <<< 1) ^^^ 0x1021 else r <<< 1

/-- The index (acc >> 8) XOR b is always below 256, the step is the table entry there XOR acc << 8 truncated to 16 bits,
and the two readings of the unparenthesised formula give that same index. (R102.) -/
def Obligations.CrcByteStepOnNaturals : Prop :=
  ∀ (tab : Vector Half 256) (acc : Half) (b : Byte),
    (∃ h : (acc.toNat >>> 8) ^^^ b.toNat < 256,
      (crcStep tab acc b).toNat = (tab[(acc.toNat >>> 8) ^^^ b.toNat]'h).toNat ^^^ ((acc.toNat <<< 8) % 2 ^ 16)) ∧
    ((acc.toNat >>> 8) ^^^ b.toNat) &&& 0xFF = (acc.toNat >>> 8) ^^^ b.toNat ∧
    (acc.toNat >>> 8) ^^^ (b.toNat &&& 0xFF) = (acc.toNat >>> 8) ^^^ b.toNat

/-- For every accumulator and byte the table step is r = acc XOR (b << 8) followed by eight shift-and-XOR rounds with
0x1021, so the CRC of every byte sequence is the bit-serial CRC with initial value 0xFFFF, no reflection and no
final XOR. (R106.) -/
def Obligations.CrcStepEqualsTheBitSerialForm : Prop :=
  (∀ (acc : Half) (b : Byte), crcStep crcTable acc b = crcBitSerialStep acc b) ∧
    ∀ bytes : List Byte, crcOver crcTable bytes = crcBitSerial bytes

/-- For a buffer within BUF_MAX and a range inside it, CRC16 completes: the response and ACC are the CRC (initial value
0xFFFF, polynomial 0x1021, bits most significant first, no final XOR) of the bytes offset + 0 .. offset + length - 1
in this order, and nothing else changes. The premise on CRCTAB is an invariant of its own. (40_crc.md R100,
40_crc.md R103, 40_crc.md R105, 20_memory.md R54, 10_state.md R34.) -/
def Obligations.Crc16AnswersTheChecksumOfItsRange : Prop :=
  ∀ (s : State) (buffer : List Byte) (length offset : Nat),
    s.crctab = crcTable → (∀ m, s.cfg.bufMax = some m → buffer.length ≤ m) → offset + length ≤ buffer.length →
    ∃ c, c = crcBitSerial ((List.range length).map fun i => buffer.getD (offset + i) 0) ∧
      exec (.crc16 buffer length offset) s =
        .next { s with acc := c, responses := s.responses ++ [.crc16 c] }

/-- Length 0 gives 0xFFFF for every offset up to the buffer's length. Two requests whose ranges hold the same bytes in
the same order get the same response, whatever the offsets and the bytes outside the ranges. (40_crc.md R107,
40_crc.md R100.) -/
def Obligations.CrcOfNothingAndOfEqualRanges : Prop :=
  (∀ (s : State) (buffer : List Byte) (offset : Nat),
      (∀ m, s.cfg.bufMax = some m → buffer.length ≤ m) → offset ≤ buffer.length →
      exec (.crc16 buffer 0 offset) s =
        .next { s with acc := 0xFFFF, responses := s.responses ++ [.crc16 0xFFFF] }) ∧
    ∀ (s : State) (buffer buffer' : List Byte) (length offset offset' : Nat),
      (∀ m, s.cfg.bufMax = some m → buffer.length ≤ m ∧ buffer'.length ≤ m) →
      offset + length ≤ buffer.length → offset' + length ≤ buffer'.length →
      (∀ i, i < length → buffer[offset + i]? = buffer'[offset' + i]?) →
      replyOf (exec (.crc16 buffer length offset) s) = replyOf (exec (.crc16 buffer' length offset') s)

/-- If CRC16 answers c for a sequence, then CRC16 of that sequence followed by c[15:8] and c[7:0] answers 0x0000, for
every sequence (property (c) of R107). (40_crc.md R107.) -/
def Obligations.CrcResidueOfDataAndChecksumIsZero : Prop :=
  ∀ (s : State) (data : List Byte) (c : Half),
    s.crctab = crcTable → (∀ m, s.cfg.bufMax = some m → data.length + 2 ≤ m) →
    replyOf (exec (.crc16 data data.length 0) s) = .ok (some (.crc16 c)) →
    replyOf (exec (.crc16 (data ++ [c.extractLsb' 8 8, c.extractLsb' 0 8]) (data.length + 2) 0) s) =
      .ok (some (.crc16 0))

/-- Changing one byte of a covered sequence always changes its CRC (the one-byte case of property (d) of R107).
(40_crc.md R107.) -/
def Obligations.CrcTellsOneChangedByteApart : Prop :=
  ∀ (before after : List Byte) (a b : Byte), a ≠ b →
    crcOver crcTable (before ++ a :: after) ≠ crcOver crcTable (before ++ b :: after)

/-- REVBITS (op 1) completes on every 25 bytes in every state: REV and the response hold, at every index, the byte of
that index with bit 7 - i as bit i, byte order kept; nothing else changes and no other byte matters. (R120, R122.) -/
def Obligations.RevbitsReversesEachByteInItsLane : Prop :=
  ∀ (s : State) (x : Vector Byte 25), decode (encode (.revbits x)) = .ok (.revbits x) ∧ opOf (.revbits x) = 1 ∧
    ∃ r : Vector Byte 25,
      exec (.revbits x) s = .next { s with rev := r, responses := s.responses ++ [.revbits r] } ∧
      ∀ (k : Fin 25) (i : Nat), i < 8 → r[k].getLsbD i = x[k].getLsbD (7 - i)

/-- rev8 maps bit 7 - i to bit i, equals the sum of its bits by reversed weights, permutes the 256 bytes, and fixes
exactly the 16 palindromic ones. (R121.) -/
def Obligations.Rev8IsAPermutationWithItsSixteenFixedPoints : Prop :=
  (∀ (b : Byte) (i : Nat), i < 8 → (rev8 b).getLsbD i = b.getLsbD (7 - i)) ∧
    (∀ b : Byte, (rev8 b).toNat =
      (b.getLsbD 0).toNat * 128 + (b.getLsbD 1).toNat * 64 + (b.getLsbD 2).toNat * 32 + (b.getLsbD 3).toNat * 16 +
      (b.getLsbD 4).toNat * 8 + (b.getLsbD 5).toNat * 4 + (b.getLsbD 6).toNat * 2 + (b.getLsbD 7).toNat) ∧
    Function.Bijective rev8 ∧
    ∀ b : Byte, rev8 b = b ↔ b ∈ ([0x00, 0x18, 0x24, 0x3C, 0x42, 0x5A, 0x66, 0x7E, 0x81, 0x99, 0xA5, 0xBD, 0xC3,
      0xDB, 0xE7, 0xFF] : List Byte)

/-- Reversing a byte twice gives it back, and a REVBITS request on the response of a REVBITS request answers the
original 25 bytes, in any two states. (R125.) -/
def Obligations.RevbitsTwiceGivesTheBufferBack : Prop :=
  (∀ b : Byte, rev8 (rev8 b) = b) ∧
    ∀ (s s' : State) (x r : Vector Byte 25), replyOf (exec (.revbits x) s) = .ok (some (.revbits r)) →
      replyOf (exec (.revbits r) s') = .ok (some (.revbits x))

/-- The seven equations of R133. That bit 6 re-enters at bit 0 is the spec's own decision D12 (log entry 12).
(42_whiten.md R133, 90_conflicts.md C5.) -/
def Obligations.LfsrAdvanceBitByBit : Prop :=
  ∀ l : Lfsr,
    (lfsrNext l).getLsbD 0 = l.getLsbD 6 ∧ (lfsrNext l).getLsbD 1 = l.getLsbD 0 ∧
    (lfsrNext l).getLsbD 2 = l.getLsbD 1 ∧ (lfsrNext l).getLsbD 3 = l.getLsbD 2 ∧
    (lfsrNext l).getLsbD 4 = (l.getLsbD 3 ^^ l.getLsbD 6) ∧ (lfsrNext l).getLsbD 5 = l.getLsbD 4 ∧
    (lfsrNext l).getLsbD 6 = l.getLsbD 5

/-- WHITEN completes for every seed and every buffer within BUF_MAX: bit j of byte i meets the keystream bit taken after
8 i + j advances from seed[6:0], the register ends after 8 N advances, the length is kept, and nothing else changes.
(R134.) -/
def Obligations.WhitenAnswersDataXorKeystream : Prop :=
  ∀ (s : State) (x : List Byte) (seed : Byte), (∀ m, s.cfg.bufMax = some m → x.length ≤ m) →
    ∃ w : List Byte,
      exec (.whiten x seed) s =
        .next { s with lfsr := lfsrNext^[8 * x.length] (seed.setWidth 7), responses := s.responses ++ [.whiten w] } ∧
      w.length = x.length ∧
      ∀ i j : Nat, i < x.length → j < 8 →
        (w.getD i 0).getLsbD j =
          ((x.getD i 0).getLsbD j ^^ (lfsrNext^[8 * i + j] (seed.setWidth 7)).getLsbD 6)

/-- With ks(s, n) the whitening of n zero bytes, byte i of the whitening of any sequence of n bytes is that byte XOR
byte i of ks(s, n), and bit j of that byte is LFSR[6] after 8 i + j advances from s[6:0]. (R135.) -/
def Obligations.KeystreamDoesNotDependOnTheData : Prop :=
  ∀ (x : List Byte) (seed : Byte) (i : Nat), i < x.length →
    (whiten x seed).2.getD i 0 = x.getD i 0 ^^^ (keystream seed x.length).getD i 0 ∧
    ∀ j, j < 8 →
      ((keystream seed x.length).getD i 0).getLsbD j = (lfsrNext^[8 * i + j] (seed.setWidth 7)).getLsbD 6

/-- WHITEN with seed and with seed XOR 0x80 answers the same state, or the same refusal, from every state. (42_whiten.md
R131, 42_whiten.md R130.) -/
def Obligations.WhitenIgnoresSeedBitSeven : Prop :=
  ∀ (s : State) (x : List Byte) (seed : Byte),
    exec (.whiten x seed) s = exec (.whiten x (seed ^^^ 0x80)) s

/-- lfsr_next(0) = 0, so a seed with seed[6:0] = 0 leaves every buffer as it is; from any non-zero state the register
visits all 127 non-zero states and returns after exactly 127 advances. (42_whiten.md R136.) -/
def Obligations.LfsrPeriodIs127AndZeroStays : Prop :=
  lfsrNext 0 = 0 ∧ (∀ (x : List Byte) (seed : Byte), seed.setWidth 7 = (0 : Lfsr) → (whiten x seed).2 = x) ∧
    ∀ l : Lfsr, l ≠ 0 → lfsrNext^[127] l = l ∧ (∀ n, 0 < n → n < 127 → lfsrNext^[n] l ≠ l) ∧
      ∀ m : Lfsr, m ≠ 0 → ∃ n, n < 127 ∧ lfsrNext^[n] l = m

/-- For every seed and every buffer WHITEN admits, WHITEN with the same seed on the whole response answers the original
bytes, in any two states with the same BUF_MAX. (42_whiten.md R137.) -/
def Obligations.WhitenTwiceGivesTheBufferBack : Prop :=
  ∀ (s s' : State) (x w : List Byte) (seed : Byte), s'.cfg = s.cfg →
    replyOf (exec (.whiten x seed) s) = .ok (some (.whiten w)) →
    replyOf (exec (.whiten w seed) s') = .ok (some (.whiten x))

/-- whiten(X ++ Y, s) is whiten(X, s) followed by whiten(Y, s') where s' is the register after 8 len(X) advances from
s[6:0]. (R138.) -/
def Obligations.WhitenOfAConcatenation : Prop :=
  ∀ (x y : List Byte) (seed : Byte),
    (whiten (x ++ y) seed).2 =
      (whiten x seed).2 ++ (whiten y ((lfsrNext^[8 * x.length] (seed.setWidth 7)).setWidth 8)).2

/-- WHITENPKT completes on every 25 bytes in every state: WBUF holds 13 zero bytes and the message, byte k of the
response is byte k of the message XOR the constant KP[k] that R141 lists, LFSR ends at 0x45, and nothing else
changes. R140 says the staged bytes are written before whitening reads them; that WBUF still holds them after the
request is the model's reading, log entry 11. (42_whiten.md R139, 42_whiten.md R140, 42_whiten.md R141,
30_encoding.md R77, assumption log entry 11.) -/
def Obligations.WhitenpktStagesAndAnswersTheKeyPad : Prop :=
  ∀ (s : State) (x : Vector Byte 25), ∃ (b : Vector Byte 38) (w : Vector Byte 25),
    exec (.whitenpkt x) s =
      .next { s with lfsr := 0x45, wbuf := b, responses := s.responses ++ [.whitenpkt w] } ∧
    (∀ t : Fin 13, b[t.val] = 0) ∧ (∀ k : Fin 25, b[13 + k.val] = x[k]) ∧
    ∀ k : Fin 25, w[k] = x[k] ^^^ keyPad[k]

/-- The padding advances the register from 0x53 to 0x79, so WHITENPKT on 25 bytes gives what WHITEN with seed 0x79 gives
on them (the second way R228 names to undo a WHITENPKT). (42_whiten.md R141, 70_reset_and_hazards.md R228.) -/
def Obligations.WhitenpktEqualsWhitenWithTheAdvancedSeed : Prop :=
  lfsrNext^[104] 0x53 = 0x79 ∧
    ∀ (s s' : State) (x w : Vector Byte 25), (∀ m, s'.cfg.bufMax = some m → 25 ≤ m) →
      (replyOf (exec (.whitenpkt x) s) = .ok (some (.whitenpkt w)) ↔
        replyOf (exec (.whiten x.toList 0x79) s') = .ok (some (.whiten w.toList)))

/-- A WHITENPKT request on the response of a WHITENPKT request answers the original 25 bytes, in any two states. (R142.) -/
def Obligations.WhitenpktTwiceGivesTheMessageBack : Prop :=
  ∀ (s s' : State) (x w : Vector Byte 25), replyOf (exec (.whitenpkt x) s) = .ok (some (.whitenpkt w)) →
    replyOf (exec (.whitenpkt w) s') = .ok (some (.whitenpkt x))

/-- For command at most 0xFF and group_id at most 15 BUILD completes. Message offsets 0..10, 16 and 18..22 are the
template's bytes 6 + k, 11 is command[7:0], 12 is control0, 13 the high nibble of control1 with the group id, 14 and
15 the arguments, 17 the drawn byte, and 23, 24 the CRC of offsets 11..22, most significant byte first. That ACC
still holds that CRC after BUILD is read from R34, log entry 11. (43_builder.md R152, 43_builder.md R153,
43_builder.md R155, 10_state.md R34, assumption log entry 11.) -/
def Obligations.BuildFillsTheMessage : Prop :=
  ∀ (s : State) (command : Half) (control0 control1 arg1 arg2 groupId : Byte),
    s.crctab = crcTable → command.toNat ≤ 0x00FF → groupId.toNat ≤ 15 →
    ∃ t, exec (.build command control0 control1 arg1 arg2 groupId) s = .next t ∧
      (∀ k : Fin 25, k.val ≤ 10 ∨ k.val = 16 ∨ (18 ≤ k.val ∧ k.val ≤ 22) → t.msg[k] = s.template[6 + k.val]) ∧
      t.msg[11].toNat = command.toNat % 256 ∧ t.msg[12] = control0 ∧
      t.msg[13] = (control1 &&& 0xF0) ||| (groupId &&& 0x0F) ∧ t.msg[14] = arg1 ∧ t.msg[15] = arg2 ∧
      t.msg[17] = s.nextNonce ∧
      ∃ c, c = crcBitSerial ((List.finRange 12).map fun i => t.msg[11 + i.val]) ∧
        t.acc = c ∧ t.msg[23].toNat = c.toNat / 256 ∧ t.msg[24].toNat = c.toNat % 256

/-- REV is the reversal of all 25 Message bytes, WBUF the staging of REV, PKT[0..5] and PKT[31] the template's,
PKT[6..30] the whitening of REV, which is byte by byte rev8(MSG[k]) XOR KP[k]; the response is PKT. That WBUF still
holds the staging of REV after BUILD (the two clauses on WBUF) is the model's reading, log entry 11. (43_builder.md
R156, 43_builder.md R157, 43_builder.md R158, 30_encoding.md R78, assumption log entry 11.) -/
def Obligations.BuildReversesWhitensAndFrames : Prop :=
  ∀ (s : State) (command : Half) (control0 control1 arg1 arg2 groupId : Byte),
    command.toNat ≤ 0x00FF → groupId.toNat ≤ 15 →
    ∃ t, exec (.build command control0 control1 arg1 arg2 groupId) s = .next t ∧
      (∀ k : Fin 25, t.rev[k] = rev8 t.msg[k]) ∧
      (∀ k : Fin 13, t.wbuf[k.val] = 0) ∧ (∀ k : Fin 25, t.wbuf[13 + k.val] = t.rev[k]) ∧
      (∀ k : Fin 6, t.pkt[k.val] = s.template[k.val]) ∧ t.pkt[31] = s.template[31] ∧
      (∀ k : Fin 25, t.pkt[6 + k.val] = (whitenForPacket t.rev)[k] ∧
        t.pkt[6 + k.val] = rev8 t.msg[k] ^^^ keyPad[k]) ∧
      t.responses = s.responses ++ [.packet t.pkt]

/-- The frame of an admitted BUILD: it writes ACC, LFSR, MSG, REV, WBUF and PKT, makes one draw and adds one response;
everything else is as before. That one draw is draws + 1 and the tail of nonceFixture is the model's choice, log
entry 5 (both fields are its own); that LFSR stays where 304 advances from 83 leave it, 0x45, is read from R34 and
R141, log entry 11. (20_memory.md R51, 20_memory.md R53, 10_state.md R32, 10_state.md R34, 42_whiten.md R141,
assumption log entry 5, assumption log entry 11.) -/
def Obligations.BuildLeavesTheRestUnchanged : Prop :=
  ∀ (s : State) (command : Half) (control0 control1 arg1 arg2 groupId : Byte) (t : State),
    exec (.build command control0 control1 arg1 arg2 groupId) s = .next t →
    t.idb = s.idb ∧ t.crctab = s.crctab ∧ t.template = s.template ∧ t.cfg = s.cfg ∧ t.requests = s.requests ∧
    t.draws = s.draws + 1 ∧ t.nonceFixture = s.nonceFixture.tail ∧ t.lfsr = 0x45

/-- Every one of the 256 nonce values is legal. A fixture that supplies n makes the draw n in any state; and where the
draw takes n, supplied or not, BUILD completes, Message offset 17 is n, and packet byte 23 is rev8(n) XOR KP[17] =
0xFC. How a fixture's bytes are held is the model's choice (log entry 5). (10_state.md R32, 43_builder.md R154,
45_command_layer.md R188, assumption log entry 5.) -/
def Obligations.BuildUsesTheNonceAFixtureSupplies : Prop :=
  ∀ (s : State) (command : Half) (control0 control1 arg1 arg2 groupId : Byte) (n : Byte),
    NonceIs n { s with nonceFixture := n :: s.nonceFixture } ∧
    (NonceIs n s → command.toNat ≤ 0x00FF → groupId.toNat ≤ 15 →
      ∃ t, exec (.build command control0 control1 arg1 arg2 groupId) s = .next t ∧
        t.msg[17] = n ∧ t.pkt[23] = rev8 n ^^^ 0xFC)

/-- Message offset 13's low nibble equals group_id and its high nibble that of control1, whatever the group id. (R162.) -/
def Obligations.GroupIdSitsInTheLowNibble : Prop :=
  ∀ (s : State) (command : Half) (control0 control1 arg1 arg2 groupId : Byte),
    command.toNat ≤ 0x00FF → groupId.toNat ≤ 15 →
    ∃ t, exec (.build command control0 control1 arg1 arg2 groupId) s = .next t ∧
      (t.msg[13] &&& 0x0F) = groupId ∧ t.msg[13].extractLsb' 4 4 = control1.extractLsb' 4 4

/-- Two BUILD requests with equal operands and template give equal packets for equal nonces; for different nonces the
packets differ at index 23, differ at 29 or 30 (or both), and agree at every other index. (R159.) -/
def Obligations.NonceChangesThreePacketBytesOnly : Prop :=
  ∀ (s s' t t' : State) (command : Half) (control0 control1 arg1 arg2 groupId : Byte),
    s.crctab = crcTable → s'.crctab = crcTable → s.template = s'.template →
    exec (.build command control0 control1 arg1 arg2 groupId) s = .next t →
    exec (.build command control0 control1 arg1 arg2 groupId) s' = .next t' →
    (s.nextNonce = s'.nextNonce → t.pkt = t'.pkt) ∧
    (∀ i : Fin 32, i.val ≠ 23 → i.val ≠ 29 → i.val ≠ 30 → t.pkt[i] = t'.pkt[i]) ∧
    (s.nextNonce ≠ s'.nextNonce →
      t.pkt[23] ≠ t'.pkt[23] ∧ (t.pkt[29] ≠ t'.pkt[29] ∨ t.pkt[30] ≠ t'.pkt[30]))

/-- Between any two admitted BUILD requests, in any two states with the same CRCTAB, a packet byte is equal as soon as
the inputs the table of R160 lists for it are equal: header, preamble, fill and trailer bytes follow their own
template byte; 17 to 21 and 23 their own operand or the nonce; 29 and 30 the inputs under the CRC. (43_builder.md
R160, 30_encoding.md R79.) -/
def Obligations.EachPacketByteDependsOnItsOwnInputs : Prop :=
  ∀ (s s' t t' : State) (command command' : Half)
    (control0 control1 arg1 arg2 groupId control0' control1' arg1' arg2' groupId' : Byte),
    s.crctab = s'.crctab →
    exec (.build command control0 control1 arg1 arg2 groupId) s = .next t →
    exec (.build command' control0' control1' arg1' arg2' groupId') s' = .next t' →
    (∀ i : Fin 32, i.val ≤ 16 ∨ i.val = 22 ∨ (24 ≤ i.val ∧ i.val ≤ 28) ∨ i.val = 31 →
      s.template[i] = s'.template[i] → t.pkt[i] = t'.pkt[i]) ∧
    (command = command' → t.pkt[17] = t'.pkt[17]) ∧ (control0 = control0' → t.pkt[18] = t'.pkt[18]) ∧
    (control1.extractLsb' 4 4 = control1'.extractLsb' 4 4 → groupId = groupId' → t.pkt[19] = t'.pkt[19]) ∧
    (arg1 = arg1' → t.pkt[20] = t'.pkt[20]) ∧ (arg2 = arg2' → t.pkt[21] = t'.pkt[21]) ∧
    (s.nextNonce = s'.nextNonce → t.pkt[23] = t'.pkt[23]) ∧
    (command = command' → control0 = control0' → control1.extractLsb' 4 4 = control1'.extractLsb' 4 4 →
      groupId = groupId' → arg1 = arg1' → arg2 = arg2' → s.nextNonce = s'.nextNonce →
      s.template[22] = s'.template[22] →
      (∀ i : Fin 32, 24 ≤ i.val → i.val ≤ 28 → s.template[i] = s'.template[i]) →
      t.pkt[29] = t'.pkt[29] ∧ t.pkt[30] = t'.pkt[30])

/-- Two admitted BUILD requests that differ only in the low nibble of control1, from templates that differ only at the
overwritten indices 17..21, 23, 29 and 30, with the same nonce, give the same 32 bytes: of the host-id bytes only
control0 and the high nibble of control1 reach the packet. (R163.) -/
def Obligations.DroppedInputsHaveNoEffect : Prop :=
  ∀ (s s' t t' : State) (command : Half) (control0 control1 control1' arg1 arg2 groupId : Byte),
    s.crctab = s'.crctab → s.nextNonce = s'.nextNonce → control1.extractLsb' 4 4 = control1'.extractLsb' 4 4 →
    (∀ i : Fin 32, i.val < 17 ∨ i.val = 22 ∨ (24 ≤ i.val ∧ i.val ≤ 28) ∨ i.val = 31 →
      s.template[i] = s'.template[i]) →
    exec (.build command control0 control1 arg1 arg2 groupId) s = .next t →
    exec (.build command control0 control1' arg1 arg2 groupId) s' = .next t' →
    t.pkt = t'.pkt

/-- For admitted operands, a host that forms the Message by R152 and R153 with the nonce BUILD draws, asks CRC16 over 12
bytes at offset 11, stores the two bytes, asks REVBITS, asks WHITENPKT and frames the result with the template's
header and trailer gets the 32 bytes BUILD answers. (43_builder.md R164.) -/
def Obligations.BuildIsTheCompositionOfTheOtherOperations : Prop :=
  ∀ (s s1 s2 s3 : State) (command : Half) (control0 control1 arg1 arg2 groupId : Byte) (m : Vector Byte 25),
    command.toNat ≤ 0x00FF → groupId.toNat ≤ 15 → s1.crctab = s.crctab →
    (∀ b, s1.cfg.bufMax = some b → 25 ≤ b) →
    m = hostMessage s.template command control0 control1 arg1 arg2 groupId s.nextNonce →
    ∃ c r w,
      replyOf (exec (.crc16 m.toList 12 11) s1) = .ok (some (.crc16 c)) ∧
      replyOf (exec (.revbits (hostStoreCrc m c)) s2) = .ok (some (.revbits r)) ∧
      replyOf (exec (.whitenpkt r) s3) = .ok (some (.whitenpkt w)) ∧
      replyOf (exec (.build command control0 control1 arg1 arg2 groupId) s) = .ok (some (.packet (frame s.template w)))

/-- After an admitted BUILD, a CRC16 request over 14 bytes at offset 11 of its Message answers 0x0000, which is how a
receiver can check it. (40_crc.md R107, 43_builder.md R155.) -/
def Obligations.BuiltMessageHasResidueZero : Prop :=
  ∀ (s s' t : State) (command : Half) (control0 control1 arg1 arg2 groupId : Byte),
    s.crctab = crcTable → s'.crctab = crcTable → (∀ m, s'.cfg.bufMax = some m → 25 ≤ m) →
    exec (.build command control0 control1 arg1 arg2 groupId) s = .next t →
    replyOf (exec (.crc16 t.msg.toList 14 11) s') = .ok (some (.crc16 0))

/-- With the named premise TPL_ZERO_FILL on the template, an admitted BUILD leaves zero at Message offsets 16 and 18 to
22. (00_scope.md R10, 43_builder.md R152, 90_conflicts.md C3.) -/
def Obligations.ZeroFillPremiseMakesTheFillBytesZero : Prop :=
  ∀ (s : State) (command : Half) (control0 control1 arg1 arg2 groupId : Byte),
    TplZeroFill s.template → command.toNat ≤ 0x00FF → groupId.toNat ≤ 15 →
    ∃ t, exec (.build command control0 control1 arg1 arg2 groupId) s = .next t ∧
      t.msg[16] = 0 ∧ ∀ k : Fin 25, 18 ≤ k.val → k.val ≤ 22 → t.msg[k] = 0

/-- HOSTID completes for every identifier: IDB holds the four bytes of stable_id, or of 0xCAFEBABE when id_valid is 0,
least significant first with LE and most significant first with BE; ACC and the response are the CRC of IDB[0],
IDB[1], IDB[2], IDB[3] from 0xFFFF with no final XOR, the response as (crc[15:8], crc[7:0]); nothing else changes.
That IDB keeps the bytes after HOSTID is the model's reading, log entry 10, and that ACC keeps the checksum is read
from R34, log entry 11. (44_hostid.md R170, 44_hostid.md R171, 44_hostid.md R172, 44_hostid.md R173, 10_state.md
R34, assumption log entry 10, assumption log entry 11.) -/
def Obligations.HostidAnswersTheChecksumOfTheIdentifierBytes : Prop :=
  ∀ (s : State) (idValid : Bool) (stableId id : Ident), s.crctab = crcTable →
    id = (if idValid then stableId else 0xCAFEBABE) →
    ∃ (b : Vector Byte 4) (c : Half) (h0 h1 : Byte),
      exec (.hostid idValid stableId) s =
        .next { s with acc := c, idb := b, responses := s.responses ++ [.hostid h0 h1] } ∧
      (∀ k : Fin 4, b[k].toNat = match s.cfg.hostidByteOrder with
        | .le => id.toNat / 256 ^ k.val % 256
        | .be => id.toNat / 256 ^ (3 - k.val) % 256) ∧
      c = crcBitSerial [b[0], b[1], b[2], b[3]] ∧
      h0.toNat = c.toNat / 256 ∧ h1.toNat = c.toNat % 256

/-- With id_valid = 0 the identifier port is ignored and the answer is that of 0xCAFEBABE; its host id is (0xA6, 0xBD)
under LE and (0x10, 0x4F) under BE, the example of R170. (44_hostid.md R170, 44_hostid.md R171, 95_test_vectors.md
section 6.) -/
def Obligations.HostidNoneIsTheFallbackIdentifier : Prop :=
  ∀ (s : State) (anything : Ident),
    exec (.hostid false anything) s = exec (.hostid true 0xCAFEBABE) s ∧
    (s.crctab = crcTable → s.cfg.hostidByteOrder = .le →
      replyOf (exec (.hostid false anything) s) = .ok (some (.hostid 0xA6 0xBD))) ∧
    (s.crctab = crcTable → s.cfg.hostidByteOrder = .be →
      replyOf (exec (.hostid false anything) s) = .ok (some (.hostid 0x10 0x4F)))

/-- HOSTID's reply is the same across any history, restart or template: it reads its operands, CRCTAB and the byte-order
parameter only. (R174.) -/
def Obligations.HostidDependsOnItsIdentifierOnly : Prop :=
  ∀ (s s' : State) (idValid : Bool) (stableId : Ident),
    s.crctab = s'.crctab → s.cfg.hostidByteOrder = s'.cfg.hostidByteOrder →
    replyOf (exec (.hostid idValid stableId) s) = replyOf (exec (.hostid idValid stableId) s')

/-- PAYLOAD drops the leading length-indicator byte and keeps the other 31 in order. (30_encoding.md R81, 30_encoding.md
R87, 70_reset_and_hazards.md R226.) -/
def Obligations.PayloadIsThePacketWithoutItsFirstByte : Prop :=
  ∀ (pkt : Vector Byte 32) (k : Fin 31), (payload pkt)[k] = pkt[1 + k.val]
end

