-- ==== Sys2Proof/Laws/State.lean ====
section
/-! SUPPORT. One lemma per field of State and update of Machine/Ops.lean, so that no proof unfolds a record update. -/

namespace Sys2Proof.Machine

variable (s : State)

/-! ### setAcc -/

@[simp] theorem State.setAcc_crctab (v : Half) : (s.setAcc v).crctab = s.crctab := rfl
@[simp] theorem State.setAcc_template (v : Half) : (s.setAcc v).template = s.template := rfl
@[simp] theorem State.setAcc_acc (v : Half) : (s.setAcc v).acc = v := rfl
@[simp] theorem State.setAcc_lfsr (v : Half) : (s.setAcc v).lfsr = s.lfsr := rfl
@[simp] theorem State.setAcc_msg (v : Half) : (s.setAcc v).msg = s.msg := rfl
@[simp] theorem State.setAcc_rev (v : Half) : (s.setAcc v).rev = s.rev := rfl
@[simp] theorem State.setAcc_wbuf (v : Half) : (s.setAcc v).wbuf = s.wbuf := rfl
@[simp] theorem State.setAcc_pkt (v : Half) : (s.setAcc v).pkt = s.pkt := rfl
@[simp] theorem State.setAcc_idb (v : Half) : (s.setAcc v).idb = s.idb := rfl
@[simp] theorem State.setAcc_cfg (v : Half) : (s.setAcc v).cfg = s.cfg := rfl
@[simp] theorem State.setAcc_nonceFixture (v : Half) : (s.setAcc v).nonceFixture = s.nonceFixture := rfl
@[simp] theorem State.setAcc_draws (v : Half) : (s.setAcc v).draws = s.draws := rfl
@[simp] theorem State.setAcc_requests (v : Half) : (s.setAcc v).requests = s.requests := rfl
@[simp] theorem State.setAcc_responses (v : Half) : (s.setAcc v).responses = s.responses := rfl

/-! ### setLfsr -/

@[simp] theorem State.setLfsr_crctab (v : Lfsr) : (s.setLfsr v).crctab = s.crctab := rfl
@[simp] theorem State.setLfsr_template (v : Lfsr) : (s.setLfsr v).template = s.template := rfl
@[simp] theorem State.setLfsr_acc (v : Lfsr) : (s.setLfsr v).acc = s.acc := rfl
@[simp] theorem State.setLfsr_lfsr (v : Lfsr) : (s.setLfsr v).lfsr = v := rfl
@[simp] theorem State.setLfsr_msg (v : Lfsr) : (s.setLfsr v).msg = s.msg := rfl
@[simp] theorem State.setLfsr_rev (v : Lfsr) : (s.setLfsr v).rev = s.rev := rfl
@[simp] theorem State.setLfsr_wbuf (v : Lfsr) : (s.setLfsr v).wbuf = s.wbuf := rfl
@[simp] theorem State.setLfsr_pkt (v : Lfsr) : (s.setLfsr v).pkt = s.pkt := rfl
@[simp] theorem State.setLfsr_idb (v : Lfsr) : (s.setLfsr v).idb = s.idb := rfl
@[simp] theorem State.setLfsr_cfg (v : Lfsr) : (s.setLfsr v).cfg = s.cfg := rfl
@[simp] theorem State.setLfsr_nonceFixture (v : Lfsr) : (s.setLfsr v).nonceFixture = s.nonceFixture := rfl
@[simp] theorem State.setLfsr_draws (v : Lfsr) : (s.setLfsr v).draws = s.draws := rfl
@[simp] theorem State.setLfsr_requests (v : Lfsr) : (s.setLfsr v).requests = s.requests := rfl
@[simp] theorem State.setLfsr_responses (v : Lfsr) : (s.setLfsr v).responses = s.responses := rfl

/-! ### setMsg -/

@[simp] theorem State.setMsg_crctab (v : Vector Byte 25) : (s.setMsg v).crctab = s.crctab := rfl
@[simp] theorem State.setMsg_template (v : Vector Byte 25) : (s.setMsg v).template = s.template := rfl
@[simp] theorem State.setMsg_acc (v : Vector Byte 25) : (s.setMsg v).acc = s.acc := rfl
@[simp] theorem State.setMsg_lfsr (v : Vector Byte 25) : (s.setMsg v).lfsr = s.lfsr := rfl
@[simp] theorem State.setMsg_msg (v : Vector Byte 25) : (s.setMsg v).msg = v := rfl
@[simp] theorem State.setMsg_rev (v : Vector Byte 25) : (s.setMsg v).rev = s.rev := rfl
@[simp] theorem State.setMsg_wbuf (v : Vector Byte 25) : (s.setMsg v).wbuf = s.wbuf := rfl
@[simp] theorem State.setMsg_pkt (v : Vector Byte 25) : (s.setMsg v).pkt = s.pkt := rfl
@[simp] theorem State.setMsg_idb (v : Vector Byte 25) : (s.setMsg v).idb = s.idb := rfl
@[simp] theorem State.setMsg_cfg (v : Vector Byte 25) : (s.setMsg v).cfg = s.cfg := rfl
@[simp] theorem State.setMsg_nonceFixture (v : Vector Byte 25) : (s.setMsg v).nonceFixture = s.nonceFixture := rfl
@[simp] theorem State.setMsg_draws (v : Vector Byte 25) : (s.setMsg v).draws = s.draws := rfl
@[simp] theorem State.setMsg_requests (v : Vector Byte 25) : (s.setMsg v).requests = s.requests := rfl
@[simp] theorem State.setMsg_responses (v : Vector Byte 25) : (s.setMsg v).responses = s.responses := rfl

/-! ### setRev -/

@[simp] theorem State.setRev_crctab (v : Vector Byte 25) : (s.setRev v).crctab = s.crctab := rfl
@[simp] theorem State.setRev_template (v : Vector Byte 25) : (s.setRev v).template = s.template := rfl
@[simp] theorem State.setRev_acc (v : Vector Byte 25) : (s.setRev v).acc = s.acc := rfl
@[simp] theorem State.setRev_lfsr (v : Vector Byte 25) : (s.setRev v).lfsr = s.lfsr := rfl
@[simp] theorem State.setRev_msg (v : Vector Byte 25) : (s.setRev v).msg = s.msg := rfl
@[simp] theorem State.setRev_rev (v : Vector Byte 25) : (s.setRev v).rev = v := rfl
@[simp] theorem State.setRev_wbuf (v : Vector Byte 25) : (s.setRev v).wbuf = s.wbuf := rfl
@[simp] theorem State.setRev_pkt (v : Vector Byte 25) : (s.setRev v).pkt = s.pkt := rfl
@[simp] theorem State.setRev_idb (v : Vector Byte 25) : (s.setRev v).idb = s.idb := rfl
@[simp] theorem State.setRev_cfg (v : Vector Byte 25) : (s.setRev v).cfg = s.cfg := rfl
@[simp] theorem State.setRev_nonceFixture (v : Vector Byte 25) : (s.setRev v).nonceFixture = s.nonceFixture := rfl
@[simp] theorem State.setRev_draws (v : Vector Byte 25) : (s.setRev v).draws = s.draws := rfl
@[simp] theorem State.setRev_requests (v : Vector Byte 25) : (s.setRev v).requests = s.requests := rfl
@[simp] theorem State.setRev_responses (v : Vector Byte 25) : (s.setRev v).responses = s.responses := rfl

/-! ### setWbuf -/

@[simp] theorem State.setWbuf_crctab (v : Vector Byte 38) : (s.setWbuf v).crctab = s.crctab := rfl
@[simp] theorem State.setWbuf_template (v : Vector Byte 38) : (s.setWbuf v).template = s.template := rfl
@[simp] theorem State.setWbuf_acc (v : Vector Byte 38) : (s.setWbuf v).acc = s.acc := rfl
@[simp] theorem State.setWbuf_lfsr (v : Vector Byte 38) : (s.setWbuf v).lfsr = s.lfsr := rfl
@[simp] theorem State.setWbuf_msg (v : Vector Byte 38) : (s.setWbuf v).msg = s.msg := rfl
@[simp] theorem State.setWbuf_rev (v : Vector Byte 38) : (s.setWbuf v).rev = s.rev := rfl
@[simp] theorem State.setWbuf_wbuf (v : Vector Byte 38) : (s.setWbuf v).wbuf = v := rfl
@[simp] theorem State.setWbuf_pkt (v : Vector Byte 38) : (s.setWbuf v).pkt = s.pkt := rfl
@[simp] theorem State.setWbuf_idb (v : Vector Byte 38) : (s.setWbuf v).idb = s.idb := rfl
@[simp] theorem State.setWbuf_cfg (v : Vector Byte 38) : (s.setWbuf v).cfg = s.cfg := rfl
@[simp] theorem State.setWbuf_nonceFixture (v : Vector Byte 38) : (s.setWbuf v).nonceFixture = s.nonceFixture := rfl
@[simp] theorem State.setWbuf_draws (v : Vector Byte 38) : (s.setWbuf v).draws = s.draws := rfl
@[simp] theorem State.setWbuf_requests (v : Vector Byte 38) : (s.setWbuf v).requests = s.requests := rfl
@[simp] theorem State.setWbuf_responses (v : Vector Byte 38) : (s.setWbuf v).responses = s.responses := rfl

/-! ### setPkt -/

@[simp] theorem State.setPkt_crctab (v : Vector Byte 32) : (s.setPkt v).crctab = s.crctab := rfl
@[simp] theorem State.setPkt_template (v : Vector Byte 32) : (s.setPkt v).template = s.template := rfl
@[simp] theorem State.setPkt_acc (v : Vector Byte 32) : (s.setPkt v).acc = s.acc := rfl
@[simp] theorem State.setPkt_lfsr (v : Vector Byte 32) : (s.setPkt v).lfsr = s.lfsr := rfl
@[simp] theorem State.setPkt_msg (v : Vector Byte 32) : (s.setPkt v).msg = s.msg := rfl
@[simp] theorem State.setPkt_rev (v : Vector Byte 32) : (s.setPkt v).rev = s.rev := rfl
@[simp] theorem State.setPkt_wbuf (v : Vector Byte 32) : (s.setPkt v).wbuf = s.wbuf := rfl
@[simp] theorem State.setPkt_pkt (v : Vector Byte 32) : (s.setPkt v).pkt = v := rfl
@[simp] theorem State.setPkt_idb (v : Vector Byte 32) : (s.setPkt v).idb = s.idb := rfl
@[simp] theorem State.setPkt_cfg (v : Vector Byte 32) : (s.setPkt v).cfg = s.cfg := rfl
@[simp] theorem State.setPkt_nonceFixture (v : Vector Byte 32) : (s.setPkt v).nonceFixture = s.nonceFixture := rfl
@[simp] theorem State.setPkt_draws (v : Vector Byte 32) : (s.setPkt v).draws = s.draws := rfl
@[simp] theorem State.setPkt_requests (v : Vector Byte 32) : (s.setPkt v).requests = s.requests := rfl
@[simp] theorem State.setPkt_responses (v : Vector Byte 32) : (s.setPkt v).responses = s.responses := rfl

/-! ### setIdb -/

@[simp] theorem State.setIdb_crctab (v : Vector Byte 4) : (s.setIdb v).crctab = s.crctab := rfl
@[simp] theorem State.setIdb_template (v : Vector Byte 4) : (s.setIdb v).template = s.template := rfl
@[simp] theorem State.setIdb_acc (v : Vector Byte 4) : (s.setIdb v).acc = s.acc := rfl
@[simp] theorem State.setIdb_lfsr (v : Vector Byte 4) : (s.setIdb v).lfsr = s.lfsr := rfl
@[simp] theorem State.setIdb_msg (v : Vector Byte 4) : (s.setIdb v).msg = s.msg := rfl
@[simp] theorem State.setIdb_rev (v : Vector Byte 4) : (s.setIdb v).rev = s.rev := rfl
@[simp] theorem State.setIdb_wbuf (v : Vector Byte 4) : (s.setIdb v).wbuf = s.wbuf := rfl
@[simp] theorem State.setIdb_pkt (v : Vector Byte 4) : (s.setIdb v).pkt = s.pkt := rfl
@[simp] theorem State.setIdb_idb (v : Vector Byte 4) : (s.setIdb v).idb = v := rfl
@[simp] theorem State.setIdb_cfg (v : Vector Byte 4) : (s.setIdb v).cfg = s.cfg := rfl
@[simp] theorem State.setIdb_nonceFixture (v : Vector Byte 4) : (s.setIdb v).nonceFixture = s.nonceFixture := rfl
@[simp] theorem State.setIdb_draws (v : Vector Byte 4) : (s.setIdb v).draws = s.draws := rfl
@[simp] theorem State.setIdb_requests (v : Vector Byte 4) : (s.setIdb v).requests = s.requests := rfl
@[simp] theorem State.setIdb_responses (v : Vector Byte 4) : (s.setIdb v).responses = s.responses := rfl

/-! ### writeMsg -/

@[simp] theorem State.writeMsg_crctab (k : Fin 25) (v : Byte) : (s.writeMsg k v).crctab = s.crctab := rfl
@[simp] theorem State.writeMsg_template (k : Fin 25) (v : Byte) : (s.writeMsg k v).template = s.template := rfl
@[simp] theorem State.writeMsg_acc (k : Fin 25) (v : Byte) : (s.writeMsg k v).acc = s.acc := rfl
@[simp] theorem State.writeMsg_lfsr (k : Fin 25) (v : Byte) : (s.writeMsg k v).lfsr = s.lfsr := rfl
@[simp] theorem State.writeMsg_msg (k : Fin 25) (v : Byte) : (s.writeMsg k v).msg = s.msg.set k.val v := rfl
@[simp] theorem State.writeMsg_rev (k : Fin 25) (v : Byte) : (s.writeMsg k v).rev = s.rev := rfl
@[simp] theorem State.writeMsg_wbuf (k : Fin 25) (v : Byte) : (s.writeMsg k v).wbuf = s.wbuf := rfl
@[simp] theorem State.writeMsg_pkt (k : Fin 25) (v : Byte) : (s.writeMsg k v).pkt = s.pkt := rfl
@[simp] theorem State.writeMsg_idb (k : Fin 25) (v : Byte) : (s.writeMsg k v).idb = s.idb := rfl
@[simp] theorem State.writeMsg_cfg (k : Fin 25) (v : Byte) : (s.writeMsg k v).cfg = s.cfg := rfl
@[simp] theorem State.writeMsg_nonceFixture (k : Fin 25) (v : Byte) : (s.writeMsg k v).nonceFixture = s.nonceFixture := rfl
@[simp] theorem State.writeMsg_draws (k : Fin 25) (v : Byte) : (s.writeMsg k v).draws = s.draws := rfl
@[simp] theorem State.writeMsg_requests (k : Fin 25) (v : Byte) : (s.writeMsg k v).requests = s.requests := rfl
@[simp] theorem State.writeMsg_responses (k : Fin 25) (v : Byte) : (s.writeMsg k v).responses = s.responses := rfl

/-! ### respond -/

@[simp] theorem State.respond_crctab (r : Response) : (s.respond r).crctab = s.crctab := rfl
@[simp] theorem State.respond_template (r : Response) : (s.respond r).template = s.template := rfl
@[simp] theorem State.respond_acc (r : Response) : (s.respond r).acc = s.acc := rfl
@[simp] theorem State.respond_lfsr (r : Response) : (s.respond r).lfsr = s.lfsr := rfl
@[simp] theorem State.respond_msg (r : Response) : (s.respond r).msg = s.msg := rfl
@[simp] theorem State.respond_rev (r : Response) : (s.respond r).rev = s.rev := rfl
@[simp] theorem State.respond_wbuf (r : Response) : (s.respond r).wbuf = s.wbuf := rfl
@[simp] theorem State.respond_pkt (r : Response) : (s.respond r).pkt = s.pkt := rfl
@[simp] theorem State.respond_idb (r : Response) : (s.respond r).idb = s.idb := rfl
@[simp] theorem State.respond_cfg (r : Response) : (s.respond r).cfg = s.cfg := rfl
@[simp] theorem State.respond_nonceFixture (r : Response) : (s.respond r).nonceFixture = s.nonceFixture := rfl
@[simp] theorem State.respond_draws (r : Response) : (s.respond r).draws = s.draws := rfl
@[simp] theorem State.respond_requests (r : Response) : (s.respond r).requests = s.requests := rfl
@[simp] theorem State.respond_responses (r : Response) : (s.respond r).responses = s.responses ++ [r] := rfl

/-! ### issue -/

@[simp] theorem State.issue_crctab (r : Request) : (s.issue r).crctab = s.crctab := rfl
@[simp] theorem State.issue_template (r : Request) : (s.issue r).template = s.template := rfl
@[simp] theorem State.issue_acc (r : Request) : (s.issue r).acc = s.acc := rfl
@[simp] theorem State.issue_lfsr (r : Request) : (s.issue r).lfsr = s.lfsr := rfl
@[simp] theorem State.issue_msg (r : Request) : (s.issue r).msg = s.msg := rfl
@[simp] theorem State.issue_rev (r : Request) : (s.issue r).rev = s.rev := rfl
@[simp] theorem State.issue_wbuf (r : Request) : (s.issue r).wbuf = s.wbuf := rfl
@[simp] theorem State.issue_pkt (r : Request) : (s.issue r).pkt = s.pkt := rfl
@[simp] theorem State.issue_idb (r : Request) : (s.issue r).idb = s.idb := rfl
@[simp] theorem State.issue_cfg (r : Request) : (s.issue r).cfg = s.cfg := rfl
@[simp] theorem State.issue_nonceFixture (r : Request) : (s.issue r).nonceFixture = s.nonceFixture := rfl
@[simp] theorem State.issue_draws (r : Request) : (s.issue r).draws = s.draws := rfl
@[simp] theorem State.issue_requests (r : Request) : (s.issue r).requests = s.requests ++ [r] := rfl
@[simp] theorem State.issue_responses (r : Request) : (s.issue r).responses = s.responses := rfl

/-! ### setRequests -/

@[simp] theorem State.setRequests_crctab (rest : List Request) : (s.setRequests rest).crctab = s.crctab := rfl
@[simp] theorem State.setRequests_template (rest : List Request) : (s.setRequests rest).template = s.template := rfl
@[simp] theorem State.setRequests_acc (rest : List Request) : (s.setRequests rest).acc = s.acc := rfl
@[simp] theorem State.setRequests_lfsr (rest : List Request) : (s.setRequests rest).lfsr = s.lfsr := rfl
@[simp] theorem State.setRequests_msg (rest : List Request) : (s.setRequests rest).msg = s.msg := rfl
@[simp] theorem State.setRequests_rev (rest : List Request) : (s.setRequests rest).rev = s.rev := rfl
@[simp] theorem State.setRequests_wbuf (rest : List Request) : (s.setRequests rest).wbuf = s.wbuf := rfl
@[simp] theorem State.setRequests_pkt (rest : List Request) : (s.setRequests rest).pkt = s.pkt := rfl
@[simp] theorem State.setRequests_idb (rest : List Request) : (s.setRequests rest).idb = s.idb := rfl
@[simp] theorem State.setRequests_cfg (rest : List Request) : (s.setRequests rest).cfg = s.cfg := rfl
@[simp] theorem State.setRequests_nonceFixture (rest : List Request) : (s.setRequests rest).nonceFixture = s.nonceFixture := rfl
@[simp] theorem State.setRequests_draws (rest : List Request) : (s.setRequests rest).draws = s.draws := rfl
@[simp] theorem State.setRequests_requests (rest : List Request) : (s.setRequests rest).requests = rest := rfl
@[simp] theorem State.setRequests_responses (rest : List Request) : (s.setRequests rest).responses = s.responses := rfl

/-! ### advanceNonce -/

@[simp] theorem State.advanceNonce_crctab : s.advanceNonce.crctab = s.crctab := rfl
@[simp] theorem State.advanceNonce_template : s.advanceNonce.template = s.template := rfl
@[simp] theorem State.advanceNonce_acc : s.advanceNonce.acc = s.acc := rfl
@[simp] theorem State.advanceNonce_lfsr : s.advanceNonce.lfsr = s.lfsr := rfl
@[simp] theorem State.advanceNonce_msg : s.advanceNonce.msg = s.msg := rfl
@[simp] theorem State.advanceNonce_rev : s.advanceNonce.rev = s.rev := rfl
@[simp] theorem State.advanceNonce_wbuf : s.advanceNonce.wbuf = s.wbuf := rfl
@[simp] theorem State.advanceNonce_pkt : s.advanceNonce.pkt = s.pkt := rfl
@[simp] theorem State.advanceNonce_idb : s.advanceNonce.idb = s.idb := rfl
@[simp] theorem State.advanceNonce_cfg : s.advanceNonce.cfg = s.cfg := rfl
@[simp] theorem State.advanceNonce_nonceFixture : s.advanceNonce.nonceFixture = s.nonceFixture.tail := rfl
@[simp] theorem State.advanceNonce_draws : s.advanceNonce.draws = s.draws + 1 := rfl
@[simp] theorem State.advanceNonce_requests : s.advanceNonce.requests = s.requests := rfl
@[simp] theorem State.advanceNonce_responses : s.advanceNonce.responses = s.responses := rfl

end Sys2Proof.Machine
end

