-- ==== Sys2Proof/Laws/Bitrev.lean ====
section
/-! SUPPORT. The bit-reversal unit: its bits, byte by byte. -/

namespace Sys2Proof.Machine

/-- Bit `i` of the reversed byte is bit `7 - i` (R121). -/
theorem rev8_getLsbD (b : Byte) (i : Nat) (h : i < 8) : (rev8 b).getLsbD i = b.getLsbD (7 - i) := by
  simp [rev8, h]

theorem rev8_rev8 (b : Byte) : rev8 (rev8 b) = b := by
  apply BitVec.eq_of_getLsbD_eq
  intro i hi
  rw [rev8_getLsbD _ _ hi, rev8_getLsbD _ _ (by omega), show 7 - (7 - i) = i by omega]

/-- Lane `k` of the reversal (R122). -/
theorem reverseBits_getElem (x : Vector Byte 25) (k : Nat) (h : k < 25) : (reverseBits x)[k] = rev8 x[k] := by
  simp [reverseBits]

end Sys2Proof.Machine
end

