-- ==== Sys2Proof/Laws/Crc.lean ====
section
/-! SUPPORT. The CRC unit: linearity of the generator's rounds, the table by its generating rule, the byte step and the
fold. -/

namespace Sys2Proof.Machine

/-- The round of R101 as a shift and a conditional XOR. -/
theorem crcShift_eq (r : Half) : crcShift r = (r <<< 1) ^^^ (if r.getLsbD 15 then crcPoly else 0) := by
  unfold crcShift; split <;> simp

theorem crcShift_xor (x y : Half) : crcShift (x ^^^ y) = crcShift x ^^^ crcShift y := by
  simp only [crcShift_eq, BitVec.shiftLeft_xor_distrib, BitVec.getLsbD_xor]
  generalize x <<< 1 = u; generalize y <<< 1 = v
  cases x.getLsbD 15 <;> cases y.getLsbD 15 <;> ext i hi <;> simp <;>
    cases u[i] <;> cases v[i] <;> cases crcPoly[i] <;> rfl

theorem crcShift8_xor (x y : Half) : crcShift8 (x ^^^ y) = crcShift8 x ^^^ crcShift8 y := by
  simp only [crcShift8, crcShift_xor]

/-- Eight rounds move a low byte up unchanged: its bits reach bit 15 only after them. -/
theorem crcShift8_low (b : Byte) : crcShift8 (b.setWidth 16) = b.setWidth 16 <<< 8 := by
  revert b; decide +kernel

/-- The table by the generating rule (R101). -/
theorem crcTable_getElem (i : Nat) (h : i < 256) : crcTable[i] = crcTableEntry (BitVec.ofNat 8 i) := by
  simp only [crcTable, Vector.getElem_ofFn]
  congr 1
  apply BitVec.eq_of_toNat_eq
  simp; omega

/-- A byte step over the generated table (R102). -/
theorem crcStep_crcTable (acc : Half) (b : Byte) :
    crcStep crcTable acc b = crcTableEntry (crcIndex acc b) ^^^ (acc <<< 8) := by
  simp [crcStep, crcTable_getElem]

/-- The low bytes of the table's entries are pairwise different. -/
theorem crcTableEntry_low_injective :
    ∀ a b : Byte, (crcTableEntry a).setWidth 8 = (crcTableEntry b).setWidth 8 → a = b := by
  have key : ((List.range 256).map fun n => ((crcTableEntry (BitVec.ofNat 8 n)).setWidth 8).toNat).Nodup := by
    decide +kernel
  intro a b h
  have ha : a.toNat < 256 := a.isLt
  have hb : b.toNat < 256 := b.isLt
  have := (List.nodup_map_iff_inj_on List.nodup_range).mp key a.toNat (by simpa using ha) b.toNat (by simpa using hb)
    (by simpa using congrArg BitVec.toNat h)
  exact BitVec.eq_of_toNat_eq this

/-- The byte step is a bijection of the accumulator for a fixed byte. -/
theorem crcStep_injective_acc (b : Byte) (x y : Half) (h : crcStep crcTable x b = crcStep crcTable y b) : x = y := by
  simp only [crcStep_crcTable] at h
  have hlow : ∀ z : Half, ((z <<< 8).setWidth 8 : Byte) = 0 := fun z => by
    ext i hi; simp
  have hi : crcIndex x b = crcIndex y b := by
    apply crcTableEntry_low_injective
    simpa [BitVec.setWidth_xor, hlow] using congrArg (BitVec.setWidth 8) h
  rw [hi] at h
  have h1 : x <<< 8 = y <<< 8 := by simpa using congrArg (crcTableEntry (crcIndex y b) ^^^ ·) h
  have h2 : x.extractLsb' 8 8 = y.extractLsb' 8 8 := by
    simpa [crcIndex] using congrArg (· ^^^ b) hi
  ext i hi'
  by_cases hlt : i < 8
  · have := congrArg (fun v => v.getLsbD (i + 8)) h1
    simpa [BitVec.getLsbD_shiftLeft, show i + 8 < 16 by omega, BitVec.getLsbD_eq_getElem hi'] using this
  · have := congrArg (fun v => v.getLsbD (i - 8)) h2
    simpa [BitVec.getLsbD_extractLsb', show 8 + (i - 8) = i by omega, show i - 8 < 8 by omega,
      BitVec.getLsbD_eq_getElem hi'] using this

/-- The byte step is an injective function of the byte for a fixed accumulator. -/
theorem crcStep_injective_byte (acc : Half) (a b : Byte) (h : crcStep crcTable acc a = crcStep crcTable acc b) :
    a = b := by
  simp only [crcStep_crcTable] at h
  have h1 : crcTableEntry (crcIndex acc a) = crcTableEntry (crcIndex acc b) := by
    simpa using congrArg (· ^^^ (acc <<< 8)) h
  have h2 := crcTableEntry_low_injective _ _ (congrArg (BitVec.setWidth 8) h1)
  simpa [crcIndex] using congrArg (acc.extractLsb' 8 8 ^^^ ·) h2

theorem crcFold_injective_acc (bytes : List Byte) (x y : Half)
    (h : bytes.foldl (crcStep crcTable) x = bytes.foldl (crcStep crcTable) y) : x = y := by
  induction bytes generalizing x y with
  | nil => exact h
  | cons b bs ih => exact crcStep_injective_acc b x y (ih _ _ h)

/-- A checksum fed back most significant byte first clears the accumulator, whatever it is. -/
theorem crcStep_own_bytes (acc : Half) :
    crcStep crcTable (crcStep crcTable acc (acc.extractLsb' 8 8)) (acc.extractLsb' 0 8) = 0 := by
  have h0 : crcTableEntry 0#8 = 0#16 := by decide
  have step1 : crcStep crcTable acc (acc.extractLsb' 8 8) = acc <<< 8 := by
    simp [crcStep_crcTable, crcIndex, h0]
  have hidx : crcIndex (acc <<< 8) (acc.extractLsb' 0 8) = 0 := by
    ext i hi
    simp [crcIndex, BitVec.getElem_extractLsb', show 8 + i < 16 by omega, BitVec.getLsbD_eq_getElem (show i < 16 by omega)]
  rw [step1, crcStep_crcTable, hidx]
  ext i hi
  simp [h0]

/-- Element `i` of a slice is `BUF[offset + i]` (R54). -/
theorem slice_getElem? (buf : List Byte) (length offset i : Nat) (h : i < length) :
    (slice buf length offset)[i]? = buf[offset + i]? := by
  simp [slice, h]

/-- A slice inside the buffer has its full length. -/
theorem slice_length {buf : List Byte} {length offset : Nat} (h : offset + length ≤ buf.length) :
    (slice buf length offset).length = length := by
  simp [slice]; omega

end Sys2Proof.Machine
end

