-- ==== Sys2Proof/Laws/Whiten.lean ====
section
/-! SUPPORT. The whitening unit: what the bit loop leaves in the register and in the output byte, the byte loop, its
composition over concatenated buffers, and the packet form. -/

namespace Sys2Proof.Machine

/-- The bit loop after `n ≤ 8` rounds: `n` advances, the first `n` bits written, the others still zero. -/
theorem whitenBit_fold (l : Lfsr) (b : Byte) (n : Nat) (hn : n ≤ 8) :
    ((List.range n).foldl (whitenBit b) (l, 0)).1 = lfsrNext^[n] l ∧
      ∀ j, j < 8 → ((List.range n).foldl (whitenBit b) (l, 0)).2.getLsbD j =
        (decide (j < n) && (b.getLsbD j ^^ keyBit (lfsrNext^[j] l))) := by
  induction n with
  | zero => simp
  | succ n ih =>
    obtain ⟨h1, h2⟩ := ih (by omega)
    rw [List.range_succ, List.foldl_append]
    generalize (List.range n).foldl (whitenBit b) (l, 0) = p at h1 h2
    refine ⟨by simp [whitenBit, h1, Function.iterate_succ_apply'], fun j hj => ?_⟩
    have hone : (BitVec.twoPow 8 n).getLsbD j = decide (j = n) := by
      simp [BitVec.getLsbD_twoPow, eq_comm, show n < 8 by omega]
    simp only [List.foldl_cons, List.foldl_nil, whitenBit, h1]
    have hor : ∀ v : Bool, (if v = true then p.2 ||| BitVec.twoPow 8 n else p.2).getLsbD j =
        (p.2.getLsbD j || (v && decide (j = n))) := by
      intro v; cases v <;> simp [hone, -BitVec.getLsbD_eq_getElem]
    rw [hor, h2 j hj]
    rcases Nat.lt_trichotomy j n with h | h | h
    · simp [h, show j < n + 1 by omega, show ¬ j = n by omega]
    · simp [h]
    · simp [show ¬ j < n by omega, show ¬ j < n + 1 by omega, show ¬ j = n by omega]

/-- Eight advances a byte (R134). -/
theorem whitenByte_fst (l : Lfsr) (b : Byte) : (whitenByte l b).1 = lfsrNext^[8] l :=
  (whitenBit_fold l b 8 le_rfl).1

/-- Bit `j` of an output byte is the data bit XOR the keystream bit of advance `j` (R130, R132). -/
theorem whitenByte_getLsbD (l : Lfsr) (b : Byte) (j : Nat) (hj : j < 8) :
    (whitenByte l b).2.getLsbD j = (b.getLsbD j ^^ keyBit (lfsrNext^[j] l)) := by
  rw [whitenByte, (whitenBit_fold l b 8 le_rfl).2 j hj, decide_eq_true hj, Bool.true_and]

/-- The output byte is the data byte XOR the keystream byte of the register state. -/
theorem whitenByte_snd (l : Lfsr) (b : Byte) : (whitenByte l b).2 = b ^^^ (whitenByte l 0).2 := by
  apply BitVec.eq_of_getLsbD_eq
  intro j hj
  rw [BitVec.getLsbD_xor, whitenByte_getLsbD _ _ _ hj, whitenByte_getLsbD _ _ _ hj]
  simp

/-- The register after a buffer: eight advances for each byte (R134). -/
theorem whitenFrom_fst (l : Lfsr) (x : List Byte) : (whitenFrom l x).1 = lfsrNext^[8 * x.length] l := by
  induction x generalizing l with
  | nil => rfl
  | cons b bs ih =>
    simp only [whitenFrom, ih, whitenByte_fst, List.length_cons]
    rw [← Function.iterate_add_apply]
    congr 2

/-- Concatenated buffers: the second is whitened from the register the first leaves (R138). -/
theorem whitenFrom_append (l : Lfsr) (x y : List Byte) :
    whitenFrom l (x ++ y) =
      ((whitenFrom (whitenFrom l x).1 y).1, (whitenFrom l x).2 ++ (whitenFrom (whitenFrom l x).1 y).2) := by
  induction x generalizing l with
  | nil => rfl
  | cons b bs ih => simp [whitenFrom, ih]

/-- Byte `i` of the output is byte `i` of the input XOR the keystream byte after `8 i` advances (R135). -/
theorem whitenFrom_getElem (l : Lfsr) (x : List Byte) (i : Nat) (h : i < x.length) :
    (whitenFrom l x).2[i]'(by simpa using h) = x[i] ^^^ (whitenByte (lfsrNext^[8 * i] l) 0).2 := by
  induction x generalizing l i with
  | nil => simp at h
  | cons b bs ih =>
    cases i with
    | zero => simpa [whitenFrom] using whitenByte_snd l b
    | succ i =>
      have h' : i < bs.length := by simpa using h
      simp only [whitenFrom, List.getElem_cons_succ]
      rw [ih _ _ h', whitenByte_fst, ← Function.iterate_add_apply]
      congr 4

/-- The staging buffer is thirteen zero bytes and the message (R77). -/
theorem stage_toList (m : Vector Byte 25) : (stage m).toList = List.replicate 13 0 ++ m.toList := by
  apply List.ext_getElem
  · simp
  · intro i h1 h2
    by_cases h : i < 13
    · rw [List.getElem_append_left (by simpa using h), List.getElem_replicate]
      simp [stage, h]
    · rw [List.getElem_append_right (by simpa using h)]
      simp [stage, h]

/-- The register after the padding (R141). -/
theorem whitenFrom_padding : (whitenFrom (seedState whSeed) (List.replicate 13 0)).1 = 0x79#7 := by decide +kernel

/-- Element `k` of the packet form is element `k` of the message whitened from the state the padding leaves (R141). -/
theorem whitenForPacket_getElem (m : Vector Byte 25) (k : Nat) (h : k < 25) :
    (whitenForPacket m)[k] = m[k] ^^^ (whitenByte (lfsrNext^[8 * k] 0x79#7) 0).2 := by
  have hk : k < m.toList.length := by simpa using h
  have e : (whitenFrom (seedState whSeed) (stage m).toList).2 =
      (whitenFrom (seedState whSeed) (List.replicate 13 0)).2 ++ (whitenFrom 0x79#7 m.toList).2 := by
    rw [stage_toList, whitenFrom_append, whitenFrom_padding]
  have := whitenFrom_getElem 0x79#7 m.toList k hk
  simp only [whitenForPacket, unstage, whitenStaged, whiten, Vector.getElem_ofFn, Vector.getElem_mk,
    List.getElem_toArray, e]
  rw [List.getElem_append_right (by simp)]
  simpa using this

/-- Whitening for a packet undoes itself (R142). -/
theorem whitenForPacket_involutive (m : Vector Byte 25) : whitenForPacket (whitenForPacket m) = m := by
  apply Vector.ext
  intro k hk
  rw [whitenForPacket_getElem _ _ hk, whitenForPacket_getElem _ _ hk, BitVec.xor_assoc, BitVec.xor_self,
    BitVec.xor_zero]

end Sys2Proof.Machine
end

