-- ==== Sys2Proof/Laws/Builder.lean ====
section
/-! SUPPORT. BUILD field by field: what each piece of state holds after the six steps, and the bytes of the Message and
of the frame. -/

namespace Sys2Proof.Machine

section steps

variable (s : State) (command : Half) (control0 control1 arg1 arg2 groupId : Byte)

/-! ### buildCopy -/

@[simp] theorem State.buildCopy_crctab : s.buildCopy.crctab = s.crctab := by
  simp only [State.buildCopy, State.setMsg_crctab]

@[simp] theorem State.buildCopy_template : s.buildCopy.template = s.template := by
  simp only [State.buildCopy, State.setMsg_template]

@[simp] theorem State.buildCopy_acc : s.buildCopy.acc = s.acc := by
  simp only [State.buildCopy, State.setMsg_acc]

@[simp] theorem State.buildCopy_lfsr : s.buildCopy.lfsr = s.lfsr := by
  simp only [State.buildCopy, State.setMsg_lfsr]

@[simp] theorem State.buildCopy_msg : s.buildCopy.msg = Vector.ofFn fun k : Fin 25 => s.template[6 + k.val] := by
  simp only [State.buildCopy, State.setMsg_msg]

@[simp] theorem State.buildCopy_rev : s.buildCopy.rev = s.rev := by
  simp only [State.buildCopy, State.setMsg_rev]

@[simp] theorem State.buildCopy_wbuf : s.buildCopy.wbuf = s.wbuf := by
  simp only [State.buildCopy, State.setMsg_wbuf]

@[simp] theorem State.buildCopy_pkt : s.buildCopy.pkt = s.pkt := by
  simp only [State.buildCopy, State.setMsg_pkt]

@[simp] theorem State.buildCopy_idb : s.buildCopy.idb = s.idb := by
  simp only [State.buildCopy, State.setMsg_idb]

@[simp] theorem State.buildCopy_cfg : s.buildCopy.cfg = s.cfg := by
  simp only [State.buildCopy, State.setMsg_cfg]

@[simp] theorem State.buildCopy_nonceFixture : s.buildCopy.nonceFixture = s.nonceFixture := by
  simp only [State.buildCopy, State.setMsg_nonceFixture]

@[simp] theorem State.buildCopy_draws : s.buildCopy.draws = s.draws := by
  simp only [State.buildCopy, State.setMsg_draws]

@[simp] theorem State.buildCopy_requests : s.buildCopy.requests = s.requests := by
  simp only [State.buildCopy, State.setMsg_requests]

@[simp] theorem State.buildCopy_responses : s.buildCopy.responses = s.responses := by
  simp only [State.buildCopy, State.setMsg_responses]

/-! ### runCrc -/

@[simp] theorem State.runCrc_crctab (buf : List Byte) (length offset : Nat) :
    (s.runCrc buf length offset).crctab = s.crctab := by
  simp only [State.runCrc, State.setAcc_crctab]

@[simp] theorem State.runCrc_template (buf : List Byte) (length offset : Nat) :
    (s.runCrc buf length offset).template = s.template := by
  simp only [State.runCrc, State.setAcc_template]

@[simp] theorem State.runCrc_acc (buf : List Byte) (length offset : Nat) :
    (s.runCrc buf length offset).acc = crc16 s.crctab buf length offset := by
  simp only [State.runCrc, State.setAcc_acc]

@[simp] theorem State.runCrc_lfsr (buf : List Byte) (length offset : Nat) :
    (s.runCrc buf length offset).lfsr = s.lfsr := by
  simp only [State.runCrc, State.setAcc_lfsr]

@[simp] theorem State.runCrc_msg (buf : List Byte) (length offset : Nat) :
    (s.runCrc buf length offset).msg = s.msg := by
  simp only [State.runCrc, State.setAcc_msg]

@[simp] theorem State.runCrc_rev (buf : List Byte) (length offset : Nat) :
    (s.runCrc buf length offset).rev = s.rev := by
  simp only [State.runCrc, State.setAcc_rev]

@[simp] theorem State.runCrc_wbuf (buf : List Byte) (length offset : Nat) :
    (s.runCrc buf length offset).wbuf = s.wbuf := by
  simp only [State.runCrc, State.setAcc_wbuf]

@[simp] theorem State.runCrc_pkt (buf : List Byte) (length offset : Nat) :
    (s.runCrc buf length offset).pkt = s.pkt := by
  simp only [State.runCrc, State.setAcc_pkt]

@[simp] theorem State.runCrc_idb (buf : List Byte) (length offset : Nat) :
    (s.runCrc buf length offset).idb = s.idb := by
  simp only [State.runCrc, State.setAcc_idb]

@[simp] theorem State.runCrc_cfg (buf : List Byte) (length offset : Nat) :
    (s.runCrc buf length offset).cfg = s.cfg := by
  simp only [State.runCrc, State.setAcc_cfg]

@[simp] theorem State.runCrc_nonceFixture (buf : List Byte) (length offset : Nat) :
    (s.runCrc buf length offset).nonceFixture = s.nonceFixture := by
  simp only [State.runCrc, State.setAcc_nonceFixture]

@[simp] theorem State.runCrc_draws (buf : List Byte) (length offset : Nat) :
    (s.runCrc buf length offset).draws = s.draws := by
  simp only [State.runCrc, State.setAcc_draws]

@[simp] theorem State.runCrc_requests (buf : List Byte) (length offset : Nat) :
    (s.runCrc buf length offset).requests = s.requests := by
  simp only [State.runCrc, State.setAcc_requests]

@[simp] theorem State.runCrc_responses (buf : List Byte) (length offset : Nat) :
    (s.runCrc buf length offset).responses = s.responses := by
  simp only [State.runCrc, State.setAcc_responses]

/-! ### runWhiten -/

@[simp] theorem State.runWhiten_crctab (x : List Byte) (seed : Byte) :
    (s.runWhiten x seed).crctab = s.crctab := by
  simp only [State.runWhiten, State.setLfsr_crctab]

@[simp] theorem State.runWhiten_template (x : List Byte) (seed : Byte) :
    (s.runWhiten x seed).template = s.template := by
  simp only [State.runWhiten, State.setLfsr_template]

@[simp] theorem State.runWhiten_acc (x : List Byte) (seed : Byte) :
    (s.runWhiten x seed).acc = s.acc := by
  simp only [State.runWhiten, State.setLfsr_acc]

@[simp] theorem State.runWhiten_lfsr (x : List Byte) (seed : Byte) :
    (s.runWhiten x seed).lfsr = (whiten x seed).1 := by
  simp only [State.runWhiten, State.setLfsr_lfsr]

@[simp] theorem State.runWhiten_msg (x : List Byte) (seed : Byte) :
    (s.runWhiten x seed).msg = s.msg := by
  simp only [State.runWhiten, State.setLfsr_msg]

@[simp] theorem State.runWhiten_rev (x : List Byte) (seed : Byte) :
    (s.runWhiten x seed).rev = s.rev := by
  simp only [State.runWhiten, State.setLfsr_rev]

@[simp] theorem State.runWhiten_wbuf (x : List Byte) (seed : Byte) :
    (s.runWhiten x seed).wbuf = s.wbuf := by
  simp only [State.runWhiten, State.setLfsr_wbuf]

@[simp] theorem State.runWhiten_pkt (x : List Byte) (seed : Byte) :
    (s.runWhiten x seed).pkt = s.pkt := by
  simp only [State.runWhiten, State.setLfsr_pkt]

@[simp] theorem State.runWhiten_idb (x : List Byte) (seed : Byte) :
    (s.runWhiten x seed).idb = s.idb := by
  simp only [State.runWhiten, State.setLfsr_idb]

@[simp] theorem State.runWhiten_cfg (x : List Byte) (seed : Byte) :
    (s.runWhiten x seed).cfg = s.cfg := by
  simp only [State.runWhiten, State.setLfsr_cfg]

@[simp] theorem State.runWhiten_nonceFixture (x : List Byte) (seed : Byte) :
    (s.runWhiten x seed).nonceFixture = s.nonceFixture := by
  simp only [State.runWhiten, State.setLfsr_nonceFixture]

@[simp] theorem State.runWhiten_draws (x : List Byte) (seed : Byte) :
    (s.runWhiten x seed).draws = s.draws := by
  simp only [State.runWhiten, State.setLfsr_draws]

@[simp] theorem State.runWhiten_requests (x : List Byte) (seed : Byte) :
    (s.runWhiten x seed).requests = s.requests := by
  simp only [State.runWhiten, State.setLfsr_requests]

@[simp] theorem State.runWhiten_responses (x : List Byte) (seed : Byte) :
    (s.runWhiten x seed).responses = s.responses := by
  simp only [State.runWhiten, State.setLfsr_responses]

/-! ### runWhitenForPacket -/

@[simp] theorem State.runWhitenForPacket_crctab (m : Vector Byte 25) :
    (s.runWhitenForPacket m).crctab = s.crctab := by
  simp only [State.runWhitenForPacket, State.runWhiten_crctab, State.setWbuf_crctab]

@[simp] theorem State.runWhitenForPacket_template (m : Vector Byte 25) :
    (s.runWhitenForPacket m).template = s.template := by
  simp only [State.runWhitenForPacket, State.runWhiten_template, State.setWbuf_template]

@[simp] theorem State.runWhitenForPacket_acc (m : Vector Byte 25) :
    (s.runWhitenForPacket m).acc = s.acc := by
  simp only [State.runWhitenForPacket, State.runWhiten_acc, State.setWbuf_acc]

@[simp] theorem State.runWhitenForPacket_lfsr (m : Vector Byte 25) :
    (s.runWhitenForPacket m).lfsr = (whiten (stage m).toList whSeed).1 := by
  simp only [State.runWhitenForPacket, State.runWhiten_lfsr]

@[simp] theorem State.runWhitenForPacket_msg (m : Vector Byte 25) :
    (s.runWhitenForPacket m).msg = s.msg := by
  simp only [State.runWhitenForPacket, State.runWhiten_msg, State.setWbuf_msg]

@[simp] theorem State.runWhitenForPacket_rev (m : Vector Byte 25) :
    (s.runWhitenForPacket m).rev = s.rev := by
  simp only [State.runWhitenForPacket, State.runWhiten_rev, State.setWbuf_rev]

@[simp] theorem State.runWhitenForPacket_wbuf (m : Vector Byte 25) :
    (s.runWhitenForPacket m).wbuf = stage m := by
  simp only [State.runWhitenForPacket, State.runWhiten_wbuf, State.setWbuf_wbuf]

@[simp] theorem State.runWhitenForPacket_pkt (m : Vector Byte 25) :
    (s.runWhitenForPacket m).pkt = s.pkt := by
  simp only [State.runWhitenForPacket, State.runWhiten_pkt, State.setWbuf_pkt]

@[simp] theorem State.runWhitenForPacket_idb (m : Vector Byte 25) :
    (s.runWhitenForPacket m).idb = s.idb := by
  simp only [State.runWhitenForPacket, State.runWhiten_idb, State.setWbuf_idb]

@[simp] theorem State.runWhitenForPacket_cfg (m : Vector Byte 25) :
    (s.runWhitenForPacket m).cfg = s.cfg := by
  simp only [State.runWhitenForPacket, State.runWhiten_cfg, State.setWbuf_cfg]

@[simp] theorem State.runWhitenForPacket_nonceFixture (m : Vector Byte 25) :
    (s.runWhitenForPacket m).nonceFixture = s.nonceFixture := by
  simp only [State.runWhitenForPacket, State.runWhiten_nonceFixture, State.setWbuf_nonceFixture]

@[simp] theorem State.runWhitenForPacket_draws (m : Vector Byte 25) :
    (s.runWhitenForPacket m).draws = s.draws := by
  simp only [State.runWhitenForPacket, State.runWhiten_draws, State.setWbuf_draws]

@[simp] theorem State.runWhitenForPacket_requests (m : Vector Byte 25) :
    (s.runWhitenForPacket m).requests = s.requests := by
  simp only [State.runWhitenForPacket, State.runWhiten_requests, State.setWbuf_requests]

@[simp] theorem State.runWhitenForPacket_responses (m : Vector Byte 25) :
    (s.runWhitenForPacket m).responses = s.responses := by
  simp only [State.runWhitenForPacket, State.runWhiten_responses, State.setWbuf_responses]

/-- The draw reads nothing a Message write changes. -/
@[simp] theorem State.writeMsg_nextNonce (k : Fin 25) (v : Byte) : (s.writeMsg k v).nextNonce = s.nextNonce := rfl

@[simp] theorem State.buildCopy_nextNonce : s.buildCopy.nextNonce = s.nextNonce := by
  simp only [State.nextNonce, State.buildCopy_nonceFixture, State.buildCopy_draws]

/-! ### buildFields -/

@[simp] theorem State.buildFields_crctab :
    (s.buildFields command control0 control1 arg1 arg2 groupId).crctab = s.crctab := by
  simp only [State.buildFields, State.writeMsg_crctab, State.advanceNonce_crctab]

@[simp] theorem State.buildFields_template :
    (s.buildFields command control0 control1 arg1 arg2 groupId).template = s.template := by
  simp only [State.buildFields, State.writeMsg_template, State.advanceNonce_template]

@[simp] theorem State.buildFields_acc :
    (s.buildFields command control0 control1 arg1 arg2 groupId).acc = s.acc := by
  simp only [State.buildFields, State.writeMsg_acc, State.advanceNonce_acc]

@[simp] theorem State.buildFields_lfsr :
    (s.buildFields command control0 control1 arg1 arg2 groupId).lfsr = s.lfsr := by
  simp only [State.buildFields, State.writeMsg_lfsr, State.advanceNonce_lfsr]

@[simp] theorem State.buildFields_msg :
    (s.buildFields command control0 control1 arg1 arg2 groupId).msg =
      (((((s.msg.set 11 (opcodeByte command)).set 12 control0).set 13 (hostGroupByte control1 groupId)).set 14
        arg1).set 15 arg2).set 17 s.nextNonce := by
  simp only [State.buildFields, State.writeMsg_msg, State.advanceNonce_msg, State.writeMsg_nextNonce]
  rfl

@[simp] theorem State.buildFields_rev :
    (s.buildFields command control0 control1 arg1 arg2 groupId).rev = s.rev := by
  simp only [State.buildFields, State.writeMsg_rev, State.advanceNonce_rev]

@[simp] theorem State.buildFields_wbuf :
    (s.buildFields command control0 control1 arg1 arg2 groupId).wbuf = s.wbuf := by
  simp only [State.buildFields, State.writeMsg_wbuf, State.advanceNonce_wbuf]

@[simp] theorem State.buildFields_pkt :
    (s.buildFields command control0 control1 arg1 arg2 groupId).pkt = s.pkt := by
  simp only [State.buildFields, State.writeMsg_pkt, State.advanceNonce_pkt]

@[simp] theorem State.buildFields_idb :
    (s.buildFields command control0 control1 arg1 arg2 groupId).idb = s.idb := by
  simp only [State.buildFields, State.writeMsg_idb, State.advanceNonce_idb]

@[simp] theorem State.buildFields_cfg :
    (s.buildFields command control0 control1 arg1 arg2 groupId).cfg = s.cfg := by
  simp only [State.buildFields, State.writeMsg_cfg, State.advanceNonce_cfg]

@[simp] theorem State.buildFields_nonceFixture :
    (s.buildFields command control0 control1 arg1 arg2 groupId).nonceFixture = s.nonceFixture.tail := by
  simp only [State.buildFields, State.writeMsg_nonceFixture, State.advanceNonce_nonceFixture]

@[simp] theorem State.buildFields_draws :
    (s.buildFields command control0 control1 arg1 arg2 groupId).draws = s.draws + 1 := by
  simp only [State.buildFields, State.writeMsg_draws, State.advanceNonce_draws]

@[simp] theorem State.buildFields_requests :
    (s.buildFields command control0 control1 arg1 arg2 groupId).requests = s.requests := by
  simp only [State.buildFields, State.writeMsg_requests, State.advanceNonce_requests]

@[simp] theorem State.buildFields_responses :
    (s.buildFields command control0 control1 arg1 arg2 groupId).responses = s.responses := by
  simp only [State.buildFields, State.writeMsg_responses, State.advanceNonce_responses]

/-! ### buildCrc -/

@[simp] theorem State.buildCrc_crctab : s.buildCrc.crctab = s.crctab := by
  simp only [State.buildCrc, State.writeMsg_crctab, State.runCrc_crctab]

@[simp] theorem State.buildCrc_template : s.buildCrc.template = s.template := by
  simp only [State.buildCrc, State.writeMsg_template, State.runCrc_template]

@[simp] theorem State.buildCrc_acc : s.buildCrc.acc = crc16 s.crctab s.msg.toList 12 11 := by
  simp only [State.buildCrc, State.writeMsg_acc, State.runCrc_acc]

@[simp] theorem State.buildCrc_lfsr : s.buildCrc.lfsr = s.lfsr := by
  simp only [State.buildCrc, State.writeMsg_lfsr, State.runCrc_lfsr]

@[simp] theorem State.buildCrc_msg : s.buildCrc.msg = hostStoreCrc s.msg (crc16 s.crctab s.msg.toList 12 11) := by
  simp only [State.buildCrc, State.writeMsg_msg, State.runCrc_msg, State.runCrc_acc]
  rfl

@[simp] theorem State.buildCrc_rev : s.buildCrc.rev = s.rev := by
  simp only [State.buildCrc, State.writeMsg_rev, State.runCrc_rev]

@[simp] theorem State.buildCrc_wbuf : s.buildCrc.wbuf = s.wbuf := by
  simp only [State.buildCrc, State.writeMsg_wbuf, State.runCrc_wbuf]

@[simp] theorem State.buildCrc_pkt : s.buildCrc.pkt = s.pkt := by
  simp only [State.buildCrc, State.writeMsg_pkt, State.runCrc_pkt]

@[simp] theorem State.buildCrc_idb : s.buildCrc.idb = s.idb := by
  simp only [State.buildCrc, State.writeMsg_idb, State.runCrc_idb]

@[simp] theorem State.buildCrc_cfg : s.buildCrc.cfg = s.cfg := by
  simp only [State.buildCrc, State.writeMsg_cfg, State.runCrc_cfg]

@[simp] theorem State.buildCrc_nonceFixture : s.buildCrc.nonceFixture = s.nonceFixture := by
  simp only [State.buildCrc, State.writeMsg_nonceFixture, State.runCrc_nonceFixture]

@[simp] theorem State.buildCrc_draws : s.buildCrc.draws = s.draws := by
  simp only [State.buildCrc, State.writeMsg_draws, State.runCrc_draws]

@[simp] theorem State.buildCrc_requests : s.buildCrc.requests = s.requests := by
  simp only [State.buildCrc, State.writeMsg_requests, State.runCrc_requests]

@[simp] theorem State.buildCrc_responses : s.buildCrc.responses = s.responses := by
  simp only [State.buildCrc, State.writeMsg_responses, State.runCrc_responses]

/-! ### buildReverse -/

@[simp] theorem State.buildReverse_crctab : s.buildReverse.crctab = s.crctab := by
  simp only [State.buildReverse, State.setRev_crctab]

@[simp] theorem State.buildReverse_template : s.buildReverse.template = s.template := by
  simp only [State.buildReverse, State.setRev_template]

@[simp] theorem State.buildReverse_acc : s.buildReverse.acc = s.acc := by
  simp only [State.buildReverse, State.setRev_acc]

@[simp] theorem State.buildReverse_lfsr : s.buildReverse.lfsr = s.lfsr := by
  simp only [State.buildReverse, State.setRev_lfsr]

@[simp] theorem State.buildReverse_msg : s.buildReverse.msg = s.msg := by
  simp only [State.buildReverse, State.setRev_msg]

@[simp] theorem State.buildReverse_rev : s.buildReverse.rev = reverseBits s.msg := by
  simp only [State.buildReverse, State.setRev_rev]

@[simp] theorem State.buildReverse_wbuf : s.buildReverse.wbuf = s.wbuf := by
  simp only [State.buildReverse, State.setRev_wbuf]

@[simp] theorem State.buildReverse_pkt : s.buildReverse.pkt = s.pkt := by
  simp only [State.buildReverse, State.setRev_pkt]

@[simp] theorem State.buildReverse_idb : s.buildReverse.idb = s.idb := by
  simp only [State.buildReverse, State.setRev_idb]

@[simp] theorem State.buildReverse_cfg : s.buildReverse.cfg = s.cfg := by
  simp only [State.buildReverse, State.setRev_cfg]

@[simp] theorem State.buildReverse_nonceFixture : s.buildReverse.nonceFixture = s.nonceFixture := by
  simp only [State.buildReverse, State.setRev_nonceFixture]

@[simp] theorem State.buildReverse_draws : s.buildReverse.draws = s.draws := by
  simp only [State.buildReverse, State.setRev_draws]

@[simp] theorem State.buildReverse_requests : s.buildReverse.requests = s.requests := by
  simp only [State.buildReverse, State.setRev_requests]

@[simp] theorem State.buildReverse_responses : s.buildReverse.responses = s.responses := by
  simp only [State.buildReverse, State.setRev_responses]

/-! ### buildFrame -/

@[simp] theorem State.buildFrame_crctab : s.buildFrame.crctab = s.crctab := by
  simp only [State.buildFrame, State.setPkt_crctab, State.runWhitenForPacket_crctab]

@[simp] theorem State.buildFrame_template : s.buildFrame.template = s.template := by
  simp only [State.buildFrame, State.setPkt_template, State.runWhitenForPacket_template]

@[simp] theorem State.buildFrame_acc : s.buildFrame.acc = s.acc := by
  simp only [State.buildFrame, State.setPkt_acc, State.runWhitenForPacket_acc]

@[simp] theorem State.buildFrame_lfsr : s.buildFrame.lfsr = (whiten (stage s.rev).toList whSeed).1 := by
  simp only [State.buildFrame, State.setPkt_lfsr, State.runWhitenForPacket_lfsr]

@[simp] theorem State.buildFrame_msg : s.buildFrame.msg = s.msg := by
  simp only [State.buildFrame, State.setPkt_msg, State.runWhitenForPacket_msg]

@[simp] theorem State.buildFrame_rev : s.buildFrame.rev = s.rev := by
  simp only [State.buildFrame, State.setPkt_rev, State.runWhitenForPacket_rev]

@[simp] theorem State.buildFrame_wbuf : s.buildFrame.wbuf = stage s.rev := by
  simp only [State.buildFrame, State.setPkt_wbuf, State.runWhitenForPacket_wbuf]

@[simp] theorem State.buildFrame_pkt : s.buildFrame.pkt = frame s.template (whitenForPacket s.rev) := by
  simp only [State.buildFrame, State.setPkt_pkt]

@[simp] theorem State.buildFrame_idb : s.buildFrame.idb = s.idb := by
  simp only [State.buildFrame, State.setPkt_idb, State.runWhitenForPacket_idb]

@[simp] theorem State.buildFrame_cfg : s.buildFrame.cfg = s.cfg := by
  simp only [State.buildFrame, State.setPkt_cfg, State.runWhitenForPacket_cfg]

@[simp] theorem State.buildFrame_nonceFixture : s.buildFrame.nonceFixture = s.nonceFixture := by
  simp only [State.buildFrame, State.setPkt_nonceFixture, State.runWhitenForPacket_nonceFixture]

@[simp] theorem State.buildFrame_draws : s.buildFrame.draws = s.draws := by
  simp only [State.buildFrame, State.setPkt_draws, State.runWhitenForPacket_draws]

@[simp] theorem State.buildFrame_requests : s.buildFrame.requests = s.requests := by
  simp only [State.buildFrame, State.setPkt_requests, State.runWhitenForPacket_requests]

@[simp] theorem State.buildFrame_responses : s.buildFrame.responses = s.responses := by
  simp only [State.buildFrame, State.setPkt_responses, State.runWhitenForPacket_responses]

end steps

section fields

variable (s : State) (command : Half) (control0 control1 arg1 arg2 groupId : Byte)

/-- The Message of a BUILD before its checksum. -/
def State.fieldsOf : Vector Byte 25 :=
  hostMessage s.template command control0 control1 arg1 arg2 groupId s.nextNonce

theorem State.buildPacket_acc :
    (s.buildPacket command control0 control1 arg1 arg2 groupId).acc =
      crc16 s.crctab (s.fieldsOf command control0 control1 arg1 arg2 groupId).toList 12 11 := by
  simp [State.buildPacket, State.fieldsOf, hostMessage]


theorem State.buildPacket_msg :
    (s.buildPacket command control0 control1 arg1 arg2 groupId).msg =
      hostStoreCrc (s.fieldsOf command control0 control1 arg1 arg2 groupId)
        (crc16 s.crctab (s.fieldsOf command control0 control1 arg1 arg2 groupId).toList 12 11) := by
  simp [State.buildPacket, State.fieldsOf, hostMessage]


theorem State.buildPacket_rev :
    (s.buildPacket command control0 control1 arg1 arg2 groupId).rev =
      reverseBits (s.buildPacket command control0 control1 arg1 arg2 groupId).msg := by
  simp [State.buildPacket]


theorem State.buildPacket_wbuf :
    (s.buildPacket command control0 control1 arg1 arg2 groupId).wbuf =
      stage (s.buildPacket command control0 control1 arg1 arg2 groupId).rev := by
  simp [State.buildPacket]


theorem State.buildPacket_pkt :
    (s.buildPacket command control0 control1 arg1 arg2 groupId).pkt =
      frame s.template (whitenForPacket (s.buildPacket command control0 control1 arg1 arg2 groupId).rev) := by
  simp [State.buildPacket]


theorem State.buildPacket_idb : (s.buildPacket command control0 control1 arg1 arg2 groupId).idb = s.idb := by
  simp [State.buildPacket]


theorem State.buildPacket_crctab : (s.buildPacket command control0 control1 arg1 arg2 groupId).crctab = s.crctab := by
  simp [State.buildPacket]


theorem State.buildPacket_template :
    (s.buildPacket command control0 control1 arg1 arg2 groupId).template = s.template := by
  simp [State.buildPacket]


theorem State.buildPacket_cfg : (s.buildPacket command control0 control1 arg1 arg2 groupId).cfg = s.cfg := by
  simp [State.buildPacket]


theorem State.buildPacket_nonceFixture :
    (s.buildPacket command control0 control1 arg1 arg2 groupId).nonceFixture = s.nonceFixture.tail := by
  simp [State.buildPacket]


theorem State.buildPacket_draws :
    (s.buildPacket command control0 control1 arg1 arg2 groupId).draws = s.draws + 1 := by
  simp [State.buildPacket]


theorem State.buildPacket_requests :
    (s.buildPacket command control0 control1 arg1 arg2 groupId).requests = s.requests := by
  simp [State.buildPacket]


theorem State.buildPacket_responses :
    (s.buildPacket command control0 control1 arg1 arg2 groupId).responses = s.responses := by
  simp [State.buildPacket]


/-- The register after the 38 staged bytes depends on their number only (R141). -/
theorem whiten_staged_register (m : Vector Byte 25) : (whiten (stage m).toList whSeed).1 = 0x45#7 := by
  have key : lfsrNext^[8 * 38] (seedState whSeed) = 0x45#7 := by decide +kernel
  rw [whiten, whitenFrom_fst, Vector.length_toList]
  exact key

theorem State.buildPacket_lfsr : (s.buildPacket command control0 control1 arg1 arg2 groupId).lfsr = 0x45#7 := by
  simp [State.buildPacket, whiten_staged_register]

end fields

/-- The Message a host forms, offset by offset (R73, R152, R153). -/
theorem hostMessage_getElem (template : Vector Byte 32) (command : Half)
    (control0 control1 arg1 arg2 groupId nonce : Byte) (k : Nat) (h : k < 25) :
    (hostMessage template command control0 control1 arg1 arg2 groupId nonce)[k] =
      if k = 17 then nonce else if k = 15 then arg2 else if k = 14 then arg1
      else if k = 13 then hostGroupByte control1 groupId else if k = 12 then control0
      else if k = 11 then opcodeByte command else template[6 + k] := by
  simp only [hostMessage, Vector.getElem_set, Vector.getElem_ofFn, eq_comm (b := k)]

/-- Storing the checksum changes offsets 23 and 24 only (R75). -/
theorem hostStoreCrc_getElem (m : Vector Byte 25) (c : Half) (k : Nat) (h : k < 25) :
    (hostStoreCrc m c)[k] = if k = 24 then loByte c else if k = 23 then hiByte c else m[k] := by
  simp only [hostStoreCrc, Vector.getElem_set, eq_comm (b := k)]

/-- The frame byte by byte (R157). -/
theorem frame_getElem (template : Vector Byte 32) (w : Vector Byte 25) (t : Nat) (h : t < 32) :
    (frame template w)[t] = if h' : 6 ≤ t ∧ t < 31 then w[t - 6] else template[t] := by
  simp [frame]

/-- Taking the body out of a frame gives back what was framed. -/
theorem packetBody_frame (template : Vector Byte 32) (w : Vector Byte 25) : packetBody (frame template w) = w := by
  apply Vector.ext
  intro k hk
  simp [packetBody, frame_getElem, show 6 + k < 31 by omega]

/-- The covered range does not meet the checksum's own bytes (R12). -/
theorem slice_hostStoreCrc (m : Vector Byte 25) (c : Half) :
    slice (hostStoreCrc m c).toList 12 11 = slice m.toList 12 11 := by
  apply List.ext_getElem?
  intro i
  by_cases h : i < 12
  · rw [slice_getElem? _ _ _ _ h, slice_getElem? _ _ _ _ h,
      List.getElem?_eq_getElem (by simp; omega), List.getElem?_eq_getElem (by simp; omega)]
    simp [hostStoreCrc_getElem, show ¬ 11 + i = 24 by omega, show ¬ 11 + i = 23 by omega]
  · simp [slice, h]

/-- The fourteen bytes a receiver checks are the covered twelve and the checksum. -/
theorem slice_residue (m : Vector Byte 25) (c : Half) :
    slice (hostStoreCrc m c).toList 14 11 = slice m.toList 12 11 ++ [hiByte c, loByte c] := by
  rw [← slice_hostStoreCrc m c]
  generalize h : hostStoreCrc m c = x
  have h23 : x[23] = hiByte c := by subst h; simp [hostStoreCrc_getElem]
  have h24 : x[24] = loByte c := by subst h; simp [hostStoreCrc_getElem]
  apply List.ext_getElem
  · simp [slice]
  · intro i h1 h2
    have hi : i < 14 := by simp [slice] at h1; omega
    rcases Nat.lt_or_ge i 12 with hlt | hge
    · rw [List.getElem_append_left (by simp [slice]; omega)]
      simp [slice]
    · rw [List.getElem_append_right (by simp [slice]; omega)]
      obtain rfl | rfl : i = 12 ∨ i = 13 := by omega
      · simp [slice, h23]
      · simp [slice, h24]

/-- The checksum of a Message checks: the residue is zero (R107 (c)). -/
theorem crc16_residue (m : Vector Byte 25) :
    crc16 crcTable (hostStoreCrc m (crc16 crcTable m.toList 12 11)).toList 14 11 = 0 := by
  rw [crc16, slice_residue, crcOver, List.foldl_append]
  exact crcStep_own_bytes _

end Sys2Proof.Machine
end

