-- ==== Sys2Proof/Laws/Operands.lean ====
section
/-! SUPPORT. The operand checks of the meanings against the conditions of WellFormed.lean. -/

namespace Sys2Proof.Machine

@[simp] theorem bufTooLong_eq_not_bufferFits (cfg : Config) (buf : List Byte) :
    bufTooLong cfg buf = !bufferFits cfg buf := by
  unfold bufTooLong bufferFits
  cases cfg.bufMax with
  | none => rfl
  | some m => simp [← decide_not]

@[simp] theorem outsideBuffer_eq_not_rangeInside (buf : List Byte) (length offset : Nat) :
    outsideBuffer buf length offset = !rangeInside buf length offset := by
  simp [outsideBuffer, rangeInside, ← decide_not]

@[simp] theorem commandTooWide_eq_not_commandInRange (command : Half) :
    commandTooWide command = !commandInRange command := by
  simp [commandTooWide, commandInRange, BitVec.le_def, ← decide_not]

@[simp] theorem groupTooLarge_eq_not_groupInRange (groupId : Byte) :
    groupTooLarge groupId = !groupInRange groupId := by
  simp [groupTooLarge, groupInRange, BitVec.le_def, ← decide_not]

end Sys2Proof.Machine
end

