-- ==== Sys2Proof/Laws/PerInstr.lean ====
section
/-! SUPPORT. Statements made of every constructor of Instr, one lemma each. -/

namespace Sys2Proof.Laws.OpSelect

/-- The encoder selects the operation's own `op`, and never a reserved one (R82, R83). -/
def Statement (i : Instr) : Prop := (encode i).op = opOf i ∧ (opOf i).toNat < 6

theorem crc16 (buffer : List Byte) (length offset : Nat) : Statement (.crc16 buffer length offset) := ⟨rfl, by simp [opOf]⟩

theorem revbits (buffer : Vector Byte 25) : Statement (.revbits buffer) := ⟨rfl, by simp [opOf]⟩

theorem whiten (buffer : List Byte) (seed : Byte) : Statement (.whiten buffer seed) := ⟨rfl, by simp [opOf]⟩

theorem whitenpkt (message : Vector Byte 25) : Statement (.whitenpkt message) := ⟨rfl, by simp [opOf]⟩

theorem build (command : Half) (control0 control1 arg1 arg2 groupId : Byte) :
    Statement (.build command control0 control1 arg1 arg2 groupId) := ⟨rfl, by simp [opOf]⟩

theorem hostid (idValid : Bool) (stableId : Ident) : Statement (.hostid idValid stableId) := ⟨rfl, by simp [opOf]⟩

end Sys2Proof.Laws.OpSelect
end

