-- ==== Sys2Proof/Laws/Step.lean ====
section
/-! SUPPORT. What one instruction and one step can answer, said once: later proofs cite these instead of unfolding a
meaning. -/

namespace Sys2Proof.Machine

variable {s t : State}

/-- CRC16 answers a next state inside its contract only, and this one. -/
theorem execCrc16_next {buffer : List Byte} {length offset : Nat}
    (h : execCrc16 buffer length offset s = .next t) :
    bufferFits s.cfg buffer = true ∧ rangeInside buffer length offset = true ∧
      t = (s.runCrc buffer length offset).respond (.crc16 (crc16 s.crctab buffer length offset)) := by
  cases hb : bufferFits s.cfg buffer <;> cases hr : rangeInside buffer length offset <;>
    simp [execCrc16, hb, hr] at h
  exact ⟨rfl, rfl, h.symm⟩

theorem execRevbits_next {buffer : Vector Byte 25} (h : execRevbits buffer s = .next t) :
    t = (s.setRev (reverseBits buffer)).respond (.revbits (reverseBits buffer)) := by
  simpa [execRevbits] using h.symm

theorem execWhiten_next {buffer : List Byte} {seed : Byte} (h : execWhiten buffer seed s = .next t) :
    bufferFits s.cfg buffer = true ∧ t = (s.runWhiten buffer seed).respond (.whiten (whiten buffer seed).2) := by
  cases hb : bufferFits s.cfg buffer <;> simp [execWhiten, hb] at h
  exact ⟨rfl, h.symm⟩

theorem execWhitenpkt_next {message : Vector Byte 25} (h : execWhitenpkt message s = .next t) :
    t = (s.runWhitenForPacket message).respond (.whitenpkt (whitenForPacket message)) := by
  simpa [execWhitenpkt] using h.symm

theorem execBuild_next {command : Half} {control0 control1 arg1 arg2 groupId : Byte}
    (h : execBuild command control0 control1 arg1 arg2 groupId s = .next t) :
    commandInRange command = true ∧ groupInRange groupId = true ∧
      t = (s.buildPacket command control0 control1 arg1 arg2 groupId).respond
        (.packet (s.buildPacket command control0 control1 arg1 arg2 groupId).pkt) := by
  cases hc : commandInRange command <;> cases hg : groupInRange groupId <;> simp [execBuild, hc, hg] at h
  exact ⟨rfl, rfl, h.symm⟩

theorem execHostid_next {idValid : Bool} {stableId : Ident} (h : execHostid idValid stableId s = .next t) :
    t = ((s.setIdb (idBytes s.cfg.hostidByteOrder (effectiveId idValid stableId))).runCrc
        (idBytes s.cfg.hostidByteOrder (effectiveId idValid stableId)).toList 4 0).respond
      (.hostid (hiByte (crc16 s.crctab (idBytes s.cfg.hostidByteOrder (effectiveId idValid stableId)).toList 4 0))
        (loByte (crc16 s.crctab (idBytes s.cfg.hostidByteOrder (effectiveId idValid stableId)).toList 4 0))) := by
  simpa [execHostid, State.runCrc] using h.symm

/-- One step waits, or serves the request at the head of the sequence. -/
theorem step_next (h : step s = .next t) :
    (s.requests = [] ∧ t = s) ∨
      ∃ r rest i, s.requests = r :: rest ∧ decode r = .ok i ∧ exec i (s.setRequests rest) = .next t := by
  unfold step at h
  split at h
  · next hr => exact .inl ⟨hr, by simpa using h.symm⟩
  · next r rest hr =>
    split at h
    · cases h
    · next i hi => exact .inr ⟨r, rest, i, hr, hi, h⟩

/-- A run goes on from the state a step answers. -/
theorem core_run_next (k : Nat) (h : step s = .next t) : Sys2Proof.core.run (k + 1) s = Sys2Proof.core.run k t := by
  refine (Host.Core.run.eq_2 Sys2Proof.core s k).trans ?_
  rw [show Sys2Proof.core.step s = .next t from h]

end Sys2Proof.Machine
end

