-- ==== Sys2Proof/Laws/Run.lean ====
section
/-! SUPPORT. A request with a reason of R193 is refused by the step that takes it, for that reason. -/

namespace Sys2Proof.Machine

/-- The eight values of `op` (R82). -/
theorem op_cases (op : BitVec 3) :
    op = 0 ∨ op = 1 ∨ op = 2 ∨ op = 3 ∨ op = 4 ∨ op = 5 ∨ op = 6 ∨ op = 7 := by
  revert op; decide

/-- The step that takes a request with a refusal reason answers that refusal and no state (R192, R193, R195). -/
theorem step_of_refusalOf {s : State} {r : Request} {rest : List Request} {why : Refusal}
    (hr : s.requests = r :: rest) (h : refusalOf s.cfg r = some why) : step s = .refused why := by
  rcases op_cases r.op with ho | ho | ho | ho | ho | ho | ho | ho <;>
    simp only [step, hr, decode, refusalOf, ho] at h ⊢
  case inl =>
    cases hb : bufferFits s.cfg r.buffer <;> cases hi : rangeInside r.buffer r.length r.offset <;>
      simp_all [exec, execCrc16]
  case inr.inr.inl => cases hb : bufferFits s.cfg r.buffer <;> simp_all [exec, execWhiten]
  case inr.inr.inr.inr.inl =>
    cases hc : commandInRange r.command <;> cases hg : groupInRange r.groupId <;> simp_all [exec, execBuild]
  all_goals simp_all

/-- A request without a refusal reason is one inside the contract. -/
theorem refusalOf_eq_none_iff (cfg : Config) (r : Request) :
    refusalOf cfg r = none ↔ ∃ i, decode r = .ok i ∧ i.wellFormed cfg = true := by
  rcases op_cases r.op with ho | ho | ho | ho | ho | ho | ho | ho <;>
    simp only [decode, refusalOf, ho]
  case inl =>
    cases hb : bufferFits cfg r.buffer <;> cases hi : rangeInside r.buffer r.length r.offset <;>
      simp [Instr.wellFormed, hb, hi]
  case inr.inr.inl => cases hb : bufferFits cfg r.buffer <;> simp [Instr.wellFormed, hb]
  case inr.inr.inr.inr.inl =>
    cases hc : commandInRange r.command <;> cases hg : groupInRange r.groupId <;> simp [Instr.wellFormed, hc, hg]
  all_goals simp [Instr.wellFormed]

end Sys2Proof.Machine
end

