-- ==== Sys2Proof/Machine/Flags.lean ====
section
/-! DEFINITION. Flags: LSP-CORE has none. "There are no flags, condition codes or predicates. No operation produces a
status besides its result" (spec 10_state.md R41), and no control or status register (R42). This file declares nothing
on purpose. -/
end

