-- ==== Sys2Proof/Tests/Slice0.lean ====
section
/-! SUPPORT. Tests: the vectors of spec 95_test_vectors.md, each beside its id, the ill-formed terms of WellFormed.lean,
words of the operation map, and for every obligation with hypotheses a witness that meets them. -/

namespace Sys2Proof.Tests

open Sys2Proof.Machine

/-! ### A small state -/

/-- The synthetic template of 95_test_vectors.md section 5 (not the device's). -/
def tEx : Vector Byte 32 :=
  #v[0xA0, 0xA1, 0xA2, 0xA3, 0xA4, 0xA5, 0xB0, 0xB1, 0xB2, 0xB3, 0xB4, 0xB5, 0xB6, 0xB7, 0xB8, 0xB9, 0xBA, 0xC0, 0xC1,
     0xC2, 0xC3, 0xC4, 0x00, 0xEE, 0x00, 0x00, 0x00, 0x00, 0x00, 0xDD, 0xDE, 0xEF]

/-- The start state of the spec's vectors: reset with `T_EX`, and a fixture that fixes the nonce to zero. -/
def s0 : State := { State.reset with template := tEx, nonceFixture := [0x00] }

/-- The same with `BUF_MAX` bounded at its least value (R9). -/
def s38 : State := { s0 with cfg := ⟨.le, some 38⟩ }

/-- The same with big-endian identifier bytes. -/
def sBe : State := { s0 with cfg := ⟨.be, none⟩ }

/-- The same with other working storage and a history. -/
def sUsed : State :=
  { s0 with acc := 0x1234, lfsr := 5, msg := Vector.replicate 25 9, rev := Vector.replicate 25 8,
            wbuf := Vector.replicate 38 7, pkt := Vector.replicate 32 6, idb := Vector.replicate 4 5, draws := 3,
            responses := [.crc16 1] }

/-- `s` with one request issued. -/
def asking (s : State) (i : Instr) : State := s.issue (encode i)

/-- A check on the next state of an answer. -/
def isNext (a : Answer) (p : State → Bool) : Bool :=
  match a with
  | .next t => p t
  | _ => false

theorem exists_next_of_isNext {a : Answer} {p : State → Bool} (h : isNext a p = true) : ∃ t, a = .next t := by
  cases a with
  | next t => exact ⟨t, rfl⟩
  | fault f => cases h
  | refused r => cases h

/-- ASCII `123456789`. -/
def digits : List Byte := [0x31, 0x32, 0x33, 0x34, 0x35, 0x36, 0x37, 0x38, 0x39]

/-- The Message of V5.1 after step 3. -/
def msg51 : Vector Byte 25 :=
  #v[0xB0, 0xB1, 0xB2, 0xB3, 0xB4, 0xB5, 0xB6, 0xB7, 0xB8, 0xB9, 0xBA, 0x21, 0x12, 0x33, 0x80, 0x00, 0x00, 0x00, 0x00,
     0x00, 0x00, 0x00, 0x00, 0xBF, 0x44]

/-- The packet of V5.1. -/
def pkt51 : Vector Byte 32 :=
  #v[0xA0, 0xA1, 0xA2, 0xA3, 0xA4, 0xA5, 0x7A, 0x75, 0xAE, 0x8B, 0xC4, 0x06, 0xBD, 0x73, 0x4E, 0xAE, 0x85, 0x3E, 0xD0,
     0xC4, 0x25, 0xCB, 0x3B, 0xFC, 0x71, 0xA3, 0xF4, 0x55, 0x68, 0x32, 0x8B, 0xEF]

/-- The request of V5.1. -/
def build51 : Instr := .build 0x0021 0x12 0x34 0x80 0x00 3

/-! ### The operation map (R82, R83): words written out from the table -/

theorem test_decode_crc16 :
    decode { Request.ofOp 0b000 with buffer := [1, 2, 3], length := 2, offset := 1 } = .ok (.crc16 [1, 2, 3] 2 1) := by
  decide

theorem test_decode_revbits :
    decode { Request.ofOp 0b001 with buffer25 := msg51 } = .ok (.revbits msg51) := by decide

theorem test_decode_whiten :
    decode { Request.ofOp 0b010 with buffer := [1, 2], seed := 83 } = .ok (.whiten [1, 2] 83) := by decide

theorem test_decode_whitenpkt :
    decode { Request.ofOp 0b011 with message := msg51 } = .ok (.whitenpkt msg51) := by decide

/-- Program P1 line 2: `op=4, command=0x0010, control0=0xA6, control1=0xBD, arg1=0x00, arg2=0x00, group_id=0x01`. -/
theorem test_decode_build :
    decode { Request.ofOp 0b100 with command := 0x0010, control0 := 0xA6, control1 := 0xBD, arg1 := 0x00, arg2 := 0x02,
                                     groupId := 0x01 } = .ok (.build 0x0010 0xA6 0xBD 0x00 0x02 0x01) := by decide

theorem test_decode_hostid :
    decode { Request.ofOp 0b101 with idValid := true, stableId := 0x12345678 } = .ok (.hostid true 0x12345678) := by
  decide

theorem test_decode_reserved :
    decode (Request.ofOp 0b110) = .error .reservedOp ∧ decode (Request.ofOp 0b111) = .error .reservedOp := by decide

/-! ### Ill-formed terms, one for each check, beside the nearest admitted one (V8.1 to V8.9) -/

theorem test_wellFormed_crcRange :
    (Instr.crc16 digits 9 1).wellFormed Config.default = false ∧
      (Instr.crc16 digits 0 9).wellFormed Config.default = true := by decide

theorem test_wellFormed_bufTooLong :
    (Instr.whiten (List.replicate 39 0) 83).wellFormed ⟨.le, some 38⟩ = false ∧
      (Instr.whiten (List.replicate 38 0) 83).wellFormed ⟨.le, some 38⟩ = true := by decide +kernel

theorem test_wellFormed_commandRange :
    (Instr.build 0x0100 0x12 0x34 0x80 0 3).wellFormed Config.default = false ∧
      (Instr.build 0x00FF 0x12 0x34 0x80 0 3).wellFormed Config.default = true := by decide

theorem test_wellFormed_groupRange :
    (Instr.build 0x0021 0x12 0x34 0x80 0 16).wellFormed Config.default = false ∧
      (Instr.build 0x0021 0x12 0x34 0x80 0 15).wellFormed Config.default = true := by decide

theorem test_config_legal : (⟨.le, some 37⟩ : Config).legal = false ∧ State.reset.cfg.legal = true := by decide

/-! ### Vectors -/

/-- V2.3: offset 1, bytes outside the range have no effect. -/
theorem test_crc16_V2_3 :
    isNext (exec (.crc16 (0xAA :: digits ++ [0xBB]) 9 1) s0) (fun t => t.responses == [.crc16 0x29B1] && t.acc == 0x29B1)
      = true := by decide +kernel

/-- V8.2 and V8.5: ranges that leave the buffer by one. -/
theorem test_crc16_V8_2 :
    replyOf (exec (.crc16 digits 9 1) s0) = .error .crcRange ∧
      replyOf (exec (.crc16 digits 0 10) s0) = .error .crcRange := by decide +kernel

/-- V3.3. -/
theorem test_revbits_V3_3 :
    replyOf (exec (.revbits msg51) s0) = .ok (some (.revbits
      #v[0x0D, 0x8D, 0x4D, 0xCD, 0x2D, 0xAD, 0x6D, 0xED, 0x1D, 0x9D, 0x5D, 0x84, 0x48, 0xCC, 0x01, 0x00, 0x00, 0x00,
         0x00, 0x00, 0x00, 0x00, 0x00, 0xFD, 0x22])) := by decide +kernel

/-- V4.3, with the register after it. -/
theorem test_whiten_V4_3 :
    isNext (exec (.whiten [0x00, 0xFF, 0xA5, 0x12, 0x34] 83) s0)
      (fun t => t.responses == [.whiten [0x8D, 0x2D, 0xF2, 0xB3, 0x09]] && t.lfsr == 0x7C) = true := by decide +kernel

/-- V4.12. -/
theorem test_whitenpkt_V4_12 :
    replyOf (exec (.whitenpkt (Vector.ofFn fun k : Fin 25 => BitVec.ofNat 8 k.val)) s0) = .ok (some (.whitenpkt
      #v[0x77, 0xF9, 0xE1, 0x45, 0xED, 0xAE, 0xD6, 0x99, 0x5B, 0x3A, 0xD2, 0xB1, 0x94, 0x05, 0x2A, 0xC4, 0x2B, 0xED,
         0x63, 0xB0, 0xE0, 0x40, 0x7E, 0xD8, 0xB1])) := by decide +kernel

/-- V5.1, Message and packet. -/
theorem test_build_V5_1 :
    isNext (exec build51 s0) (fun t => t.msg == msg51 && t.responses == [.packet pkt51]) = true := by decide +kernel

/-- V5.8: `TEMPLATE[22]` reaches `PKT[22]` and the checksum. -/
theorem test_build_V5_8 :
    isNext (exec build51 { s0 with template := tEx.set 22 0x5A })
      (fun t => t.pkt[22] == 0x61 && t.pkt[29] == 0xAA && t.pkt[30] == 0x10) = true := by decide +kernel

/-- V6.6, both byte orders. -/
theorem test_hostid_V6_6 :
    replyOf (exec (.hostid true 0x12345678) s0) = .ok (some (.hostid 0x54 0x3A)) ∧
      replyOf (exec (.hostid true 0x12345678) sBe) = .ok (some (.hostid 0x30 0xEC)) := by decide +kernel

/-- P3 line 4: seed 83 on the 25 bytes does not undo WHITENPKT (R228); its first bytes are `FA 2B`. -/
theorem test_whiten_misaligned :
    ((Sys2Proof.Machine.whiten [0x77, 0xF9] 83).2) = [0xFA, 0x2B] := by decide +kernel

/-- Two lines of a listing as R86 writes them. -/
theorem test_listing :
    listing (.crc16 [0x31, 0xAB] 2 0) =
      "CRC16 ".toList ++ [Char.ofNat 123, '3', '1', ' ', 'A', 'B', Char.ofNat 125] ++ ", 2, 0".toList ∧
    listing (.hostid false 7) = "HOSTID none".toList := by decide +kernel

/-- A table word runs as the first request after reset. -/
theorem test_withFetchWord :
    isNext (step (State.reset.withFetchWord 8 0)) (fun t => t.responses == [.crc16 0xFFFF] && t.requests == []) = true ∧
      replyOf (step (State.reset.withFetchWord 8 7)) = .error .reservedOp := by decide +kernel

/-! ### Witnesses: for every obligation with hypotheses, values that meet them together -/

/-- Each `op` clause of OperationMapReadsTheNamedPorts. -/
theorem witness_OperationMapReadsTheNamedPorts : ∀ op : BitVec 3, (Request.ofOp op).op = op := fun _ => rfl

theorem witness_StepRunsTheDecodedRequest :
    (asking s0 build51).requests = encode build51 :: [] ∧ decode (encode build51) = .ok build51 := ⟨rfl, rfl⟩

theorem witness_StepRefusesExactlyTheReservedOps :
    replyOf (step { s0 with requests := [Request.ofOp 6] }) = .error .reservedOp ∧
      replyOf (step { s0 with requests := [Request.ofOp 7] }) = .error .reservedOp ∧
      isNext (step { s0 with requests := [Request.ofOp 5] }) (fun _ => true) = true := by decide +kernel

theorem witness_StepWaitsWhenNothingIsIssued : s0.requests = [] := rfl

theorem witness_AdmittedRunAnswersEveryRequest :
    NoRefusal { s0 with requests := [encode (.hostid false 0), encode build51] } := by
  intro r hr
  simp only [List.mem_cons, List.not_mem_nil, or_false] at hr
  rcases hr with rfl | rfl
  · exact ⟨_, rfl, rfl⟩
  · exact ⟨_, rfl, by decide⟩

/-- Each reason of R193 at the boundary of its condition (the nearest admitted requests stand in
test_refusalOf_admits), after one admitted request and before another. -/
theorem witness_RunEndsAtTheFirstRefusal :
    (∀ q ∈ [encode (.hostid false 0)], ∃ i, decode q = .ok i ∧ i.wellFormed s38.cfg = true) ∧
      (∃ r, { s38 with requests := encode (.hostid false 0) :: r :: [encode build51] }.requests =
          [encode (.hostid false 0)] ++ r :: [encode build51] ∧ refusalOf s38.cfg r = some .reservedOp) ∧
      refusalOf s38.cfg (Request.ofOp 6) = some .reservedOp ∧
      refusalOf s38.cfg (encode (.crc16 (List.replicate 39 0) 40 0)) = some .bufTooLong ∧
      refusalOf s38.cfg (encode (.whiten (List.replicate 39 0) 83)) = some .bufTooLong ∧
      refusalOf s38.cfg (encode (.crc16 digits 0 10)) = some .crcRange ∧
      refusalOf s38.cfg (encode (.build 0x0100 0 0 0 0 16)) = some .commandRange ∧
      refusalOf s38.cfg (encode (.build 0x00FF 0 0 0 0 16)) = some .groupRange := by
  refine ⟨?_, ⟨Request.ofOp 7, rfl, rfl⟩, by decide +kernel⟩
  intro q hq
  obtain rfl : q = encode (.hostid false 0) := by simpa using hq
  exact ⟨_, rfl, rfl⟩

/-- The nearest admitted requests of R193. -/
theorem test_refusalOf_admits :
    refusalOf s38.cfg (Request.ofOp 5) = none ∧
      refusalOf s38.cfg (encode (.crc16 (List.replicate 38 0) 0 38)) = none ∧
      refusalOf s38.cfg (encode (.build 0x00FF 0 0 0 0 15)) = none := by decide +kernel

/-- Both sides of the equivalence, for every operation that has them. -/
theorem witness_AdmittedExactlyInsideTheContract :
    isNext (exec (.crc16 digits 9 0) s0) (fun _ => true) = true ∧
      isNext (exec (.whiten digits 1) s38) (fun _ => true) = true ∧
      isNext (exec (.build 0xFF 0 0 0 0 15) s0) (fun _ => true) = true ∧
      isNext (exec (.crc16 digits 10 0) s0) (fun _ => true) = false ∧
      isNext (exec (.whiten (List.replicate 39 0) 1) s38) (fun _ => true) = false ∧
      isNext (exec (.build 0xFF 0 0 0 0 16) s0) (fun _ => true) = false := by decide +kernel

/-- First clause at `BUF_MAX + 1`; second clause one past the end of the buffer. -/
theorem witness_BufferRefusalsAndTheirPriority :
    (s38.cfg.bufMax = some 38 ∧ 38 < (List.replicate 39 (0 : Byte)).length) ∧
      ((∀ m, s38.cfg.bufMax = some m → digits.length ≤ m) ∧ digits.length < 1 + 9) := by
  refine ⟨⟨rfl, by decide⟩, fun m hm => ?_, by decide⟩
  obtain rfl : 38 = m := Option.some.inj hm
  decide

/-- First clause at `0x0100`, with `group_id` out of range too (V8.10); second at `0x00FF` and 16. -/
theorem witness_BuildRefusesCommandAndGroupOutOfRange :
    0x00FF < (0x0100 : Half).toNat ∧ ((0x00FF : Half).toNat ≤ 0x00FF ∧ 15 < (16 : Byte).toNat) := by decide

/-- A next state of each operation: for OneResponseOfTheRightKindPerRequest, WorkingStorageTouchedOnlyByItsOperations,
NonceDrawnExactlyOncePerBuild and BuildLeavesTheRestUnchanged. -/
theorem witness_next_of_each_operation :
    (∃ t, exec (.crc16 digits 9 0) s0 = .next t) ∧ (∃ t, exec (.revbits msg51) s0 = .next t) ∧
      (∃ t, exec (.whiten digits 83) s0 = .next t) ∧ (∃ t, exec (.whitenpkt msg51) s0 = .next t) ∧
      (∃ t, exec build51 s0 = .next t) ∧ (∃ t, exec (.hostid true 1) s0 = .next t) := by
  refine ⟨?_, ?_, ?_, ?_, ?_, ?_⟩ <;> exact exists_next_of_isNext (p := fun _ => true) (by decide +kernel)

theorem witness_ConstantsAndParametersNeverChange : ∃ t, step (asking s0 build51) = .next t :=
  exists_next_of_isNext (p := fun _ => true) (by decide +kernel)

theorem witness_RepliesIgnoreWorkingStorageAndHistory :
    s0.crctab = sUsed.crctab ∧ s0.template = sUsed.template ∧ s0.cfg = sUsed.cfg ∧ s0.nextNonce = sUsed.nextNonce ∧
      s0 ≠ sUsed := ⟨rfl, rfl, rfl, rfl, fun h => absurd (congrArg State.draws h) (by decide)⟩

/-- A state in which the packet of V5.1 has been handed out meets the invariant, and a step goes on from it. -/
theorem witness_EveryStepKeepsTheRunInvariant :
    RunInv { s0 with pkt := pkt51, msg := msg51, responses := [.packet pkt51], requests := [encode build51] } ∧
      ∃ t, step { s0 with pkt := pkt51, msg := msg51, responses := [.packet pkt51], requests := [encode build51] } =
        .next t := by
  refine ⟨⟨rfl, fun p hp => ?_, fun p hp => ?_⟩, exists_next_of_isNext (p := fun _ => true) (by decide +kernel)⟩
  · obtain rfl : p = pkt51 := by simpa using hp
    exact ⟨by decide +kernel, by decide +kernel, by decide +kernel, by decide +kernel⟩
  · obtain rfl : pkt51 = p := by simpa [lastPacket, packetOf] using hp
    exact ⟨rfl, by decide +kernel⟩

/-- An unbounded `BUF_MAX` meets every premise on it. -/
theorem witness_unbounded (n : Nat) : ∀ m, s0.cfg.bufMax = some m → n ≤ m := by
  intro m hm; cases hm

theorem witness_Crc16AnswersTheChecksumOfItsRange :
    s0.crctab = crcTable ∧ (∀ m, s0.cfg.bufMax = some m → digits.length ≤ m) ∧ 1 + 8 ≤ digits.length :=
  ⟨rfl, witness_unbounded _, by decide⟩

/-- First clause at the end of the buffer; second with the same bytes at two offsets. -/
theorem witness_CrcOfNothingAndOfEqualRanges :
    ((∀ m, s0.cfg.bufMax = some m → digits.length ≤ m) ∧ 9 ≤ digits.length) ∧
      (1 + 2 ≤ digits.length ∧ 0 + 2 ≤ ([0x32, 0x33] : List Byte).length ∧
        ∀ i, i < 2 → digits[1 + i]? = ([0x32, 0x33] : List Byte)[0 + i]?) := by
  refine ⟨⟨witness_unbounded _, by decide⟩, by decide, by decide, ?_⟩
  decide

theorem witness_CrcResidueOfDataAndChecksumIsZero :
    s0.crctab = crcTable ∧ (∀ m, s0.cfg.bufMax = some m → digits.length + 2 ≤ m) ∧
      replyOf (exec (.crc16 digits digits.length 0) s0) = .ok (some (.crc16 0x29B1)) :=
  ⟨rfl, witness_unbounded _, by decide +kernel⟩

theorem witness_CrcTellsOneChangedByteApart : (0x00 : Byte) ≠ 0xFF := by decide

theorem witness_RevbitsTwiceGivesTheBufferBack :
    replyOf (exec (.revbits msg51) s0) = .ok (some (.revbits (reverseBits msg51))) := by decide +kernel

theorem witness_WhitenAnswersDataXorKeystream :
    (∀ m, s0.cfg.bufMax = some m → digits.length ≤ m) ∧ 8 < digits.length := ⟨witness_unbounded _, by decide⟩

theorem witness_KeystreamDoesNotDependOnTheData : 8 < digits.length := by decide

/-- The seeds with `seed[6:0] = 0`, and a non-zero state. -/
theorem witness_LfsrPeriodIs127AndZeroStays :
    (0x80 : Byte).setWidth 7 = (0 : Lfsr) ∧ (0x53 : Lfsr) ≠ 0 := by decide

theorem witness_WhitenTwiceGivesTheBufferBack :
    sUsed.cfg = s0.cfg ∧
      replyOf (exec (.whiten [0x00, 0xFF] 83) s0) = .ok (some (.whiten [0x8D, 0x2D])) := by decide +kernel

/-- `BUF_MAX` at its least value meets the premise, and the left side of the equivalence holds of a message. -/
theorem witness_WhitenpktEqualsWhitenWithTheAdvancedSeed :
    (∀ m, s38.cfg.bufMax = some m → 25 ≤ m) ∧
      replyOf (exec (.whitenpkt (Vector.replicate 25 0)) s0) = .ok (some (.whitenpkt keyPad)) := by
  refine ⟨fun m hm => ?_, by decide +kernel⟩
  obtain rfl : 38 = m := Option.some.inj hm
  decide

theorem witness_WhitenpktTwiceGivesTheMessageBack :
    replyOf (exec (.whitenpkt keyPad) s0) = .ok (some (.whitenpkt (Vector.replicate 25 0))) := by decide +kernel

/-- The premises of the statements on an admitted BUILD, at the edges of both ranges: BuildFillsTheMessage,
BuildReversesWhitensAndFrames, GroupIdSitsInTheLowNibble. -/
theorem witness_admitted_build :
    s0.crctab = crcTable ∧ (0x00FF : Half).toNat ≤ 0x00FF ∧ (15 : Byte).toNat ≤ 15 := ⟨rfl, by decide, by decide⟩

/-- The draw at a fixture, and the free draw at reset. -/
theorem witness_BuildUsesTheNonceAFixtureSupplies :
    NonceIs 0x00 s0 ∧ NonceIs (Config.nonceDraw 0) State.reset ∧ (0x00FF : Half).toNat ≤ 0x00FF ∧
      (15 : Byte).toNat ≤ 15 := ⟨rfl, rfl, by decide, by decide⟩

/-- V5.1 and V5.2: equal templates, nonces apart; and two states with equal nonces. -/
theorem witness_NonceChangesThreePacketBytesOnly :
    s0.crctab = crcTable ∧ s0.template = { s0 with nonceFixture := [0xFF] }.template ∧
      (∃ t, exec build51 s0 = .next t) ∧ (∃ t, exec build51 { s0 with nonceFixture := [0xFF] } = .next t) ∧
      s0.nextNonce ≠ { s0 with nonceFixture := [0xFF] }.nextNonce ∧ s0.nextNonce = sUsed.nextNonce ∧
      ∃ t, exec build51 sUsed = .next t := by
  refine ⟨rfl, rfl, ?_, ?_, by decide, rfl, ?_⟩ <;>
    exact exists_next_of_isNext (p := fun _ => true) (by decide +kernel)

/-- Every clause of EachPacketByteDependsOnItsOwnInputs at once: two BUILD requests with equal inputs, the states and
the dropped nibble of `control1` apart. -/
theorem witness_EachPacketByteDependsOnItsOwnInputs :
    s0.crctab = sUsed.crctab ∧ s0.template = sUsed.template ∧ s0.nextNonce = sUsed.nextNonce ∧
      (0x34 : Byte).extractLsb' 4 4 = (0x3F : Byte).extractLsb' 4 4 ∧ (∃ t, exec build51 s0 = .next t) ∧
      ∃ t, exec (.build 0x0021 0x12 0x3F 0x80 0x00 3) sUsed = .next t := by
  refine ⟨rfl, rfl, rfl, by decide, ?_, ?_⟩ <;> exact exists_next_of_isNext (p := fun _ => true) (by decide +kernel)

/-- V5.1 and V5.3, the second from a template changed at an overwritten index. -/
theorem witness_DroppedInputsHaveNoEffect :
    s0.crctab = { s0 with template := tEx.set 23 0x11 }.crctab ∧
      s0.nextNonce = { s0 with template := tEx.set 23 0x11 }.nextNonce ∧
      (0x34 : Byte).extractLsb' 4 4 = (0x3F : Byte).extractLsb' 4 4 ∧
      (∀ i : Fin 32, i.val < 17 ∨ i.val = 22 ∨ (24 ≤ i.val ∧ i.val ≤ 28) ∨ i.val = 31 →
        s0.template[i] = { s0 with template := tEx.set 23 0x11 }.template[i]) ∧
      (∃ t, exec build51 s0 = .next t) ∧
      ∃ t, exec (.build 0x0021 0x12 0x3F 0x80 0x00 3) { s0 with template := tEx.set 23 0x11 } = .next t := by
  refine ⟨rfl, rfl, by decide, by decide +kernel, ?_, ?_⟩ <;>
    exact exists_next_of_isNext (p := fun _ => true) (by decide +kernel)

theorem witness_BuildIsTheCompositionOfTheOtherOperations :
    (0x0021 : Half).toNat ≤ 0x00FF ∧ (3 : Byte).toNat ≤ 15 ∧ sUsed.crctab = s0.crctab ∧
      (∀ b, sUsed.cfg.bufMax = some b → 25 ≤ b) ∧
      ∃ m, m = hostMessage s0.template 0x0021 0x12 0x34 0x80 0x00 3 s0.nextNonce :=
  ⟨by decide, by decide, rfl, witness_unbounded _, _, rfl⟩

theorem witness_BuiltMessageHasResidueZero :
    s0.crctab = crcTable ∧ sUsed.crctab = crcTable ∧ (∀ m, sUsed.cfg.bufMax = some m → 25 ≤ m) ∧
      ∃ t, exec build51 s0 = .next t :=
  ⟨rfl, rfl, witness_unbounded _, exists_next_of_isNext (p := fun _ => true) (by decide +kernel)⟩

theorem witness_ZeroFillPremiseMakesTheFillBytesZero :
    TplZeroFill s0.template ∧ (0x0021 : Half).toNat ≤ 0x00FF ∧ (3 : Byte).toNat ≤ 15 := by
  refine ⟨?_, by decide, by decide⟩
  unfold TplZeroFill
  decide +kernel

/-- Both values of the identifier and both byte orders. -/
theorem witness_Hostid :
    s0.crctab = crcTable ∧ sBe.crctab = crcTable ∧ s0.cfg.hostidByteOrder = .le ∧ sBe.cfg.hostidByteOrder = .be ∧
      (0x00000001 : Ident) = (if true then 0x00000001 else 0xCAFEBABE) ∧
      (0xCAFEBABE : Ident) = (if false then 0x00000001 else 0xCAFEBABE) := ⟨rfl, rfl, rfl, rfl, rfl, rfl⟩

theorem witness_HostidDependsOnItsIdentifierOnly :
    s0.crctab = sUsed.crctab ∧ s0.cfg.hostidByteOrder = sUsed.cfg.hostidByteOrder ∧ s0 ≠ sUsed :=
  ⟨rfl, rfl, fun h => absurd (congrArg State.draws h) (by decide)⟩

end Sys2Proof.Tests
end

section
/-! What an admitted request does and leaves alone, said once for every operation: the frame of `exec` and the step
that takes the request. -/

namespace Sys2Proof.Machine

variable {s t : State}

/-- The step takes the request at the head of the sequence and runs the operation it decodes to (R19, R82). -/
theorem step_eq_exec {r : Request} {rest : List Request} {i : Instr} (hr : s.requests = r :: rest)
    (hi : decode r = .ok i) : step s = exec i (s.setRequests rest) := by
  simp only [step, hr, hi]

/-- CRC16 inside its contract answers the accumulator and keeps it in `ACC` (R100, R105). -/
theorem execCrc16_of_inside {buffer : List Byte} {length offset : Nat} (hb : bufferFits s.cfg buffer = true)
    (hr : rangeInside buffer length offset = true) :
    execCrc16 buffer length offset s =
      .next ((s.runCrc buffer length offset).respond (.crc16 (crc16 s.crctab buffer length offset))) := by
  simp [execCrc16, hb, hr]

/-- WHITEN of a buffer within `BUF_MAX` answers the whitened bytes (R130). -/
theorem execWhiten_of_fits {buffer : List Byte} (hb : bufferFits s.cfg buffer = true) (seed : Byte) :
    execWhiten buffer seed s = .next ((s.runWhiten buffer seed).respond (.whiten (whiten buffer seed).2)) := by
  simp [execWhiten, hb]

/-- BUILD inside its contract answers the state of the six steps with the packet handed back (R150, R151). -/
theorem execBuild_of_inRange {command : Half} {groupId : Byte} (hc : commandInRange command = true)
    (hg : groupInRange groupId = true) (control0 control1 arg1 arg2 : Byte) :
    execBuild command control0 control1 arg1 arg2 groupId s =
      .next ((s.buildPacket command control0 control1 arg1 arg2 groupId).respond
        (.packet (s.buildPacket command control0 control1 arg1 arg2 groupId).pkt)) := by
  simp [execBuild, hc, hg]

/-- An operation inside the contract is served (R193). -/
theorem exec_next_of_wellFormed {i : Instr} (h : i.wellFormed s.cfg = true) : ∃ t, exec i s = .next t := by
  cases i with
  | crc16 buffer length offset =>
    obtain ⟨hb, hr⟩ := Bool.and_eq_true_iff.mp h
    exact ⟨_, execCrc16_of_inside hb hr⟩
  | whiten buffer seed => exact ⟨_, execWhiten_of_fits h seed⟩
  | build command control0 control1 arg1 arg2 groupId =>
    obtain ⟨hc, hg⟩ := Bool.and_eq_true_iff.mp h
    exact ⟨_, execBuild_of_inRange hc hg control0 control1 arg1 arg2⟩
  | revbits | whitenpkt | hostid => exact ⟨_, rfl⟩

/-- Serving an operation changes neither the parameters nor the constant memories (R25, R26, R64). -/
theorem exec_configFixed {i : Instr} (h : exec i s = .next t) : ConfigFixed s t := by
  unfold ConfigFixed
  cases i with
  | crc16 => obtain ⟨-, -, rfl⟩ := execCrc16_next h; simp
  | revbits => obtain rfl := execRevbits_next h; simp
  | whiten => obtain ⟨-, rfl⟩ := execWhiten_next h; simp
  | whitenpkt => obtain rfl := execWhitenpkt_next h; simp
  | build =>
    obtain ⟨-, -, rfl⟩ := execBuild_next h
    simp [State.buildPacket_cfg, State.buildPacket_template, State.buildPacket_crctab]
  | hostid => obtain rfl := execHostid_next h; simp

/-- Serving an operation takes no further request and hands back one response after the earlier ones (R19, R33). -/
theorem exec_requests_responses {i : Instr} (h : exec i s = .next t) :
    t.requests = s.requests ∧ ∃ reply, t.responses = s.responses ++ [reply] := by
  cases i with
  | crc16 => obtain ⟨-, -, rfl⟩ := execCrc16_next h; simp
  | revbits => obtain rfl := execRevbits_next h; simp
  | whiten => obtain ⟨-, rfl⟩ := execWhiten_next h; simp
  | whitenpkt => obtain rfl := execWhitenpkt_next h; simp
  | build =>
    obtain ⟨-, -, rfl⟩ := execBuild_next h
    simp [State.buildPacket_requests, State.buildPacket_responses]
  | hostid => obtain rfl := execHostid_next h; simp

/-- The step that takes a request inside the contract serves it: the rest of the sequence and the parameters stay, and
one response follows the earlier ones. -/
theorem step_serves {r : Request} {rest : List Request} {i : Instr} (hr : s.requests = r :: rest)
    (hi : decode r = .ok i) (hw : i.wellFormed s.cfg = true) :
    ∃ t, step s = .next t ∧ t.cfg = s.cfg ∧ t.requests = rest ∧ ∃ reply, t.responses = s.responses ++ [reply] := by
  obtain ⟨t, ht⟩ := exec_next_of_wellFormed (s := s.setRequests rest) hw
  exact ⟨t, (step_eq_exec hr hi).trans ht, (exec_configFixed ht).1, exec_requests_responses ht⟩

/-- Settles O4: it is the equation of `step` for a request the decoder accepts. -/
theorem stepRunsTheDecodedRequest : Obligations.StepRunsTheDecodedRequest :=
  fun _ _ _ _ hr hi => step_eq_exec hr hi

end Sys2Proof.Machine
end

section
/-! Runs: how they compose, how a refusal ends them, and that a prefix of admitted requests is served. -/

namespace Sys2Proof.Machine

variable {s t : State}

/-- A refusal ends the run, however many steps it was given (R192). -/
theorem core_run_refused {why : Refusal} (k : Nat) (h : step s = .refused why) :
    Sys2Proof.core.run (k + 1) s = .refused why := by
  refine (Host.Core.run.eq_2 Sys2Proof.core s k).trans ?_
  rw [show Sys2Proof.core.step s = .refused why from h]

/-- A run of `m + k` steps goes on with `k` steps from where the first `m` led. -/
theorem core_run_add {m : Nat} (k : Nat) (h : Sys2Proof.core.run m s = .next t) :
    Sys2Proof.core.run (m + k) s = Sys2Proof.core.run k t := by
  induction m generalizing s with
  | zero =>
    cases h
    rw [Nat.zero_add]
  | succ m ih =>
    cases hs : step s with
    | next u =>
      rw [core_run_next m hs] at h
      rw [Nat.succ_add, core_run_next _ hs, ih h]
    | fault f => nomatch f
    | refused why =>
      rw [core_run_refused m hs] at h
      cases h

/-- A prefix of requests inside the contract is served one step and one response each, whatever was issued after it. -/
theorem core_run_serves_prefix (pre rest : List Request) (hreq : s.requests = pre ++ rest)
    (hpre : ∀ q ∈ pre, ∃ i, decode q = .ok i ∧ i.wellFormed s.cfg = true) :
    ∃ t new, Sys2Proof.core.run pre.length s = .next t ∧ t.cfg = s.cfg ∧ t.requests = rest ∧
      t.responses = s.responses ++ new ∧ new.length = pre.length := by
  induction pre generalizing s with
  | nil => exact ⟨s, [], rfl, rfl, hreq, (List.append_nil _).symm, rfl⟩
  | cons q pre ih =>
    obtain ⟨i, hi, hw⟩ := hpre q List.mem_cons_self
    obtain ⟨u, hu, hcfg, hurest, reply, hreply⟩ := step_serves hreq hi hw
    obtain ⟨t, new, hrun, htcfg, htreq, htresp, hlen⟩ :=
      ih hurest fun p hp => hcfg ▸ hpre p (List.mem_cons_of_mem q hp)
    refine ⟨t, reply :: new, (core_run_next pre.length hu).trans hrun, htcfg.trans hcfg, htreq, ?_, ?_⟩
    · rw [htresp, hreply, List.append_assoc, List.singleton_append]
    · rw [List.length_cons, List.length_cons, hlen]

/-- Settles O8: the prefix is served with the parameters kept, so the step after it refuses `r` for the reason
`refusalOf` gives at the start, and the refusal ends every longer run. -/
theorem runEndsAtTheFirstRefusal : Obligations.RunEndsAtTheFirstRefusal := by
  intro s pre post r why hreq hpre hwhy
  obtain ⟨t, new, hrun, hcfg, htreq, htresp, hlen⟩ := core_run_serves_prefix pre (r :: post) hreq hpre
  have hstep : step t = .refused why := step_of_refusalOf htreq (hcfg ▸ hwhy)
  refine ⟨⟨t, hrun, htreq, ?_⟩, fun k => ?_⟩
  · rw [htresp, List.length_append, hlen]
  · calc
      Sys2Proof.core.run (pre.length + 1 + k) s = Sys2Proof.core.run (pre.length + (k + 1)) s := by
        rw [Nat.add_assoc, Nat.add_comm 1 k]
      _ = Sys2Proof.core.run (k + 1) t := core_run_add (k + 1) hrun
      _ = .refused why := core_run_refused k hstep

end Sys2Proof.Machine
end

section
/-! The Message bytes a BUILD leaves as the template has them. -/

namespace Sys2Proof.Machine

variable {s : State}

/-- The numeric condition of R161 on `command`. -/
theorem commandInRange_iff_toNat {command : Half} : commandInRange command = true ↔ command.toNat ≤ 0x00FF := by
  simp [commandInRange, BitVec.le_def]

/-- The numeric condition of R161 on `group_id`. -/
theorem groupInRange_iff_toNat {groupId : Byte} : groupInRange groupId = true ↔ groupId.toNat ≤ 15 := by
  simp [groupInRange, BitVec.le_def]

/-- The Message offsets that neither a field, nor the nonce, nor the checksum overwrites hold the template's bytes
(R152, R153, R155). -/
theorem State.buildPacket_msg_eq_template (command : Half) (control0 control1 arg1 arg2 groupId : Byte) (k : Nat)
    (h : k ≤ 10 ∨ k = 16 ∨ 18 ≤ k ∧ k ≤ 22) :
    (s.buildPacket command control0 control1 arg1 arg2 groupId).msg[k]'(by omega) = s.template[6 + k]'(by omega) := by
  have hcrc : k ≠ 24 ∧ k ≠ 23 := by omega
  have hfields : k ≠ 17 ∧ k ≠ 15 ∧ k ≠ 14 ∧ k ≠ 13 ∧ k ≠ 12 ∧ k ≠ 11 := by omega
  simp [State.buildPacket_msg, hostStoreCrc_getElem, State.fieldsOf, hostMessage_getElem, hcrc, hfields]

/-- Settles O50: offsets 16 and 18 to 22 keep template bytes 22 and 24 to 28, which the premise makes zero. -/
theorem zeroFillPremiseMakesTheFillBytesZero : Obligations.ZeroFillPremiseMakesTheFillBytesZero := by
  intro s command control0 control1 arg1 arg2 groupId ⟨h22, h24, h25, h26, h27, h28⟩ hcommand hgroup
  refine ⟨_, execBuild_of_inRange (commandInRange_iff_toNat.mpr hcommand) (groupInRange_iff_toNat.mpr hgroup)
    control0 control1 arg1 arg2, ?_, fun k hlo hhi => ?_⟩
  · rw [State.respond_msg, State.buildPacket_msg_eq_template (h := by omega)]
    exact h22
  · rw [State.respond_msg, Fin.getElem_fin, State.buildPacket_msg_eq_template (h := by omega)]
    obtain hk | hk | hk | hk | hk : k.val = 18 ∨ k.val = 19 ∨ k.val = 20 ∨ k.val = 21 ∨ k.val = 22 := by omega
    all_goals simp only [hk]; assumption

end Sys2Proof.Machine
end

section
/-! What the host sees of each operation: its reply, or its refusal in the order of R195. -/

namespace Sys2Proof.Machine

variable {s s' t : State}

/-- The reply to a request that was served is the response it handed back (R33). -/
@[simp] theorem replyOf_next_respond (r : Response) : replyOf (.next (s.respond r)) = .ok (some r) := by
  simp [replyOf]

@[simp] theorem replyOf_refused (why : Refusal) : replyOf (.refused why) = .error why := rfl

theorem replyOf_crc16 (buffer : List Byte) (length offset : Nat) :
    replyOf (exec (.crc16 buffer length offset) s) =
      if bufferFits s.cfg buffer then
        if rangeInside buffer length offset then .ok (some (.crc16 (crc16 s.crctab buffer length offset)))
        else .error .crcRange
      else .error .bufTooLong := by
  cases hb : bufferFits s.cfg buffer <;> cases hr : rangeInside buffer length offset <;>
    simp [exec, execCrc16, hb, hr]

theorem replyOf_revbits (buffer : Vector Byte 25) :
    replyOf (exec (.revbits buffer) s) = .ok (some (.revbits (reverseBits buffer))) :=
  replyOf_next_respond _

theorem replyOf_whiten (buffer : List Byte) (seed : Byte) :
    replyOf (exec (.whiten buffer seed) s) =
      if bufferFits s.cfg buffer then .ok (some (.whiten (whiten buffer seed).2)) else .error .bufTooLong := by
  cases hb : bufferFits s.cfg buffer <;> simp [exec, execWhiten, hb]

theorem replyOf_whitenpkt (message : Vector Byte 25) :
    replyOf (exec (.whitenpkt message) s) = .ok (some (.whitenpkt (whitenForPacket message))) :=
  replyOf_next_respond _

theorem replyOf_build (command : Half) (control0 control1 arg1 arg2 groupId : Byte) :
    replyOf (exec (.build command control0 control1 arg1 arg2 groupId) s) =
      if commandInRange command then
        if groupInRange groupId then
          .ok (some (.packet (s.buildPacket command control0 control1 arg1 arg2 groupId).pkt))
        else .error .groupRange
      else .error .commandRange := by
  cases hc : commandInRange command <;> cases hg : groupInRange groupId <;> simp [exec, execBuild, hc, hg]

theorem replyOf_hostid (idValid : Bool) (stableId : Ident) :
    replyOf (exec (.hostid idValid stableId) s) =
      .ok (some (.hostid
        (hiByte (crc16 s.crctab (idBytes s.cfg.hostidByteOrder (effectiveId idValid stableId)).toList 4 0))
        (loByte (crc16 s.crctab (idBytes s.cfg.hostidByteOrder (effectiveId idValid stableId)).toList 4 0)))) :=
  replyOf_next_respond _

/-- The Message BUILD forms is a function of the operands, the constant memories and the drawn byte (R152 to R155). -/
theorem State.buildPacket_msg_congr (htab : s.crctab = s'.crctab) (htpl : s.template = s'.template)
    (hnonce : s.nextNonce = s'.nextNonce) (command : Half) (control0 control1 arg1 arg2 groupId : Byte) :
    (s.buildPacket command control0 control1 arg1 arg2 groupId).msg =
      (s'.buildPacket command control0 control1 arg1 arg2 groupId).msg := by
  simp only [State.buildPacket_msg, State.fieldsOf, htab, htpl, hnonce]

/-- So is the packet (R156, R157). -/
theorem State.buildPacket_pkt_congr (htab : s.crctab = s'.crctab) (htpl : s.template = s'.template)
    (hnonce : s.nextNonce = s'.nextNonce) (command : Half) (control0 control1 arg1 arg2 groupId : Byte) :
    (s.buildPacket command control0 control1 arg1 arg2 groupId).pkt =
      (s'.buildPacket command control0 control1 arg1 arg2 groupId).pkt := by
  simp only [State.buildPacket_pkt, State.buildPacket_rev, State.buildPacket_msg_congr htab htpl hnonce, htpl]

/-- Settles O17: each operation's reply is written in its operands, `CRCTAB`, the parameters and, for BUILD, the
template and the drawn byte. -/
theorem repliesIgnoreWorkingStorageAndHistory : Obligations.RepliesIgnoreWorkingStorageAndHistory := by
  intro i s s' htab htpl hcfg hnonce
  cases i with
  | crc16 => rw [replyOf_crc16, replyOf_crc16, htab, hcfg]
  | revbits => rw [replyOf_revbits, replyOf_revbits]
  | whiten => rw [replyOf_whiten, replyOf_whiten, hcfg]
  | whitenpkt => rw [replyOf_whitenpkt, replyOf_whitenpkt]
  | build => rw [replyOf_build, replyOf_build, State.buildPacket_pkt_congr htab htpl hnonce]
  | hostid => rw [replyOf_hostid, replyOf_hostid, htab, hcfg]

/-- Settles O12: the response is the one the operation's answer hands back, read off case by case. -/
theorem oneResponseOfTheRightKindPerRequest : Obligations.OneResponseOfTheRightKindPerRequest := by
  intro i s t h
  refine ⟨(exec_requests_responses h).1, ?_⟩
  cases i with
  | crc16 => obtain ⟨-, -, rfl⟩ := execCrc16_next h; simp
  | revbits => obtain rfl := execRevbits_next h; simp
  | whiten => obtain ⟨-, rfl⟩ := execWhiten_next h; simp [whiten]
  | whitenpkt => obtain rfl := execWhitenpkt_next h; simp
  | build => obtain ⟨-, -, rfl⟩ := execBuild_next h; simp [State.buildPacket_responses]
  | hostid => obtain rfl := execHostid_next h; simp

end Sys2Proof.Machine
end

section
/-! The nonce draw: who makes it, and where the drawn byte goes. -/

namespace Sys2Proof.Machine

variable {s t : State}

/-- Settles O16: BUILD advances the draw in its second step, and no other operation writes the nonce input. -/
theorem nonceDrawnExactlyOncePerBuild : Obligations.NonceDrawnExactlyOncePerBuild := by
  intro i s t h
  cases i with
  | crc16 => obtain ⟨-, -, rfl⟩ := execCrc16_next h; simp [opOf]
  | revbits => obtain rfl := execRevbits_next h; simp [opOf]
  | whiten => obtain ⟨-, rfl⟩ := execWhiten_next h; simp [opOf]
  | whitenpkt => obtain rfl := execWhitenpkt_next h; simp [opOf]
  | build =>
    obtain ⟨-, -, rfl⟩ := execBuild_next h
    simp [opOf, State.buildPacket_draws, State.buildPacket_nonceFixture]
  | hostid => obtain rfl := execHostid_next h; simp [opOf]

/-- The keystream bytes after the padding are those R141 lists. -/
theorem whitenByte_after_padding :
    ∀ k : Fin 25, (whitenByte (lfsrNext^[8 * k.val] 0x79#7) 0).2 = keyPad[k] := by
  decide +kernel

/-- Whitening for a packet is the XOR with `KP` (R141). -/
theorem whitenForPacket_getElem_eq_xor_keyPad (m : Vector Byte 25) (k : Nat) (h : k < 25) :
    (whitenForPacket m)[k] = m[k] ^^^ keyPad[k] := by
  rw [whitenForPacket_getElem m k h]
  exact congrArg (m[k] ^^^ ·) (whitenByte_after_padding ⟨k, h⟩)

/-- Body byte `k` of the packet BUILD frames is the reversed Message byte XOR `KP[k]` (R156, R157). -/
theorem State.buildPacket_pkt_body (command : Half) (control0 control1 arg1 arg2 groupId : Byte) (k : Nat)
    (h : k < 25) :
    (s.buildPacket command control0 control1 arg1 arg2 groupId).pkt[6 + k] =
      rev8 (s.buildPacket command control0 control1 arg1 arg2 groupId).msg[k] ^^^ keyPad[k] := by
  have hbody : 6 ≤ 6 + k ∧ 6 + k < 31 := by omega
  simp [State.buildPacket_pkt, frame_getElem, hbody, whitenForPacket_getElem_eq_xor_keyPad,
    State.buildPacket_rev, reverseBits_getElem]

/-- Message offset 17 holds the drawn byte (R154); the checksum is stored beside it. -/
theorem State.buildPacket_msg_nonce (command : Half) (control0 control1 arg1 arg2 groupId : Byte) :
    (s.buildPacket command control0 control1 arg1 arg2 groupId).msg[17] = s.nextNonce := by
  simp [State.buildPacket_msg, hostStoreCrc_getElem, State.fieldsOf, hostMessage_getElem]

/-- Settles O43: a fixture's first byte is the draw by definition, and an admitted BUILD puts the draw at Message offset
17, that is packet byte 6 + 17. -/
theorem buildUsesTheNonceAFixtureSupplies : Obligations.BuildUsesTheNonceAFixtureSupplies := by
  intro s command control0 control1 arg1 arg2 groupId n
  refine ⟨rfl, fun hn hcommand hgroup => ?_⟩
  have hmsg := (State.buildPacket_msg_nonce command control0 control1 arg1 arg2 groupId).trans hn
  refine ⟨_, execBuild_of_inRange (commandInRange_iff_toNat.mpr hcommand) (groupInRange_iff_toNat.mpr hgroup)
    control0 control1 arg1 arg2, hmsg, ?_⟩
  have hbody := State.buildPacket_pkt_body (s := s) command control0 control1 arg1 arg2 groupId 17 (by decide)
  rwa [hmsg] at hbody

end Sys2Proof.Machine
end

section
/-! The run invariant: what a BUILD hands out is sound, the other operations leave `PKT` and `MSG`, and so every step
keeps it. -/

namespace Sys2Proof.Machine

variable {s t : State}

/-- Bit reversal undoes itself (R125). -/
theorem reverseBits_reverseBits (x : Vector Byte 25) : reverseBits (reverseBits x) = x := by
  apply Vector.ext
  intro k hk
  rw [reverseBits_getElem _ _ hk, reverseBits_getElem _ _ hk, rev8_rev8]

/-- The pipeline backwards gives the Message that was reversed, whitened and framed (R125, R142, R157). -/
theorem messageInside_frame (template : Vector Byte 32) (m : Vector Byte 25) :
    messageInside (frame template (whitenForPacket (reverseBits m))) = m := by
  rw [messageInside, packetBody_frame, whitenForPacket_involutive, reverseBits_reverseBits]

/-- The framed form of a Message is a sound packet when the Message has the template's preamble and residue zero. -/
theorem packetSound_frame {tab : Vector Half 256} {template : Vector Byte 32} {m : Vector Byte 25}
    (hpre : ∀ k : Fin 25, k.val ≤ 10 → m[k] = template[6 + k.val]) (hres : crc16 tab m.toList 14 11 = 0) :
    PacketSound tab template (frame template (whitenForPacket (reverseBits m))) where
  header t ht := by
    have hout : ¬ (6 ≤ t.val ∧ t.val < 31) := by omega
    simp only [Fin.getElem_fin, frame_getElem, hout, dite_false]
  trailer := by simp [frame_getElem]
  preamble := by rwa [messageInside_frame]
  residue := by rwa [messageInside_frame]

/-- The packet of a BUILD is the framed form of its Message (R156, R157). -/
theorem State.buildPacket_pkt_eq_frame_msg (command : Half) (control0 control1 arg1 arg2 groupId : Byte) :
    (s.buildPacket command control0 control1 arg1 arg2 groupId).pkt =
      frame s.template (whitenForPacket (reverseBits
        (s.buildPacket command control0 control1 arg1 arg2 groupId).msg)) := by
  rw [State.buildPacket_pkt, State.buildPacket_rev]

/-- The Message inside the packet of a BUILD is the one `MSG` holds. -/
theorem State.messageInside_buildPacket_pkt (command : Half) (control0 control1 arg1 arg2 groupId : Byte) :
    messageInside (s.buildPacket command control0 control1 arg1 arg2 groupId).pkt =
      (s.buildPacket command control0 control1 arg1 arg2 groupId).msg := by
  rw [State.buildPacket_pkt_eq_frame_msg, messageInside_frame]

/-- The Message of a BUILD over the generated table has residue zero (R107 (c)). -/
theorem State.buildPacket_msg_residue (htab : s.crctab = crcTable) (command : Half)
    (control0 control1 arg1 arg2 groupId : Byte) :
    crc16 s.crctab (s.buildPacket command control0 control1 arg1 arg2 groupId).msg.toList 14 11 = 0 := by
  rw [State.buildPacket_msg, htab, crc16_residue]

/-- The packet of a BUILD over the generated table is sound. -/
theorem State.buildPacket_packetSound (htab : s.crctab = crcTable) (command : Half)
    (control0 control1 arg1 arg2 groupId : Byte) :
    PacketSound s.crctab s.template (s.buildPacket command control0 control1 arg1 arg2 groupId).pkt := by
  rw [State.buildPacket_pkt_eq_frame_msg]
  exact packetSound_frame
    (fun k hk => State.buildPacket_msg_eq_template command control0 control1 arg1 arg2 groupId k.val (.inl hk))
    (State.buildPacket_msg_residue htab command control0 control1 arg1 arg2 groupId)

/-- A packet handed back is the last one. -/
theorem lastPacket_append_packet (responses : List Response) (p : Vector Byte 32) :
    lastPacket (responses ++ [.packet p]) = some p := by
  simp [lastPacket, packetOf]

/-- A response of another kind leaves the last packet as it was. -/
theorem lastPacket_append_of_packetOf_eq_none {reply : Response} (h : packetOf reply = none)
    (responses : List Response) : lastPacket (responses ++ [reply]) = lastPacket responses := by
  simp [lastPacket, h]

/-- Every operation but BUILD leaves `PKT` and `MSG` and hands back no packet (R34). -/
theorem exec_keeps_pkt_msg {i : Instr} (hi : opOf i ≠ 0b100) (h : exec i s = .next t) :
    t.pkt = s.pkt ∧ t.msg = s.msg ∧ ∃ reply, t.responses = s.responses ++ [reply] ∧ packetOf reply = none := by
  cases i with
  | crc16 => obtain ⟨-, -, rfl⟩ := execCrc16_next h; simp [packetOf]
  | revbits => obtain rfl := execRevbits_next h; simp [packetOf]
  | whiten => obtain ⟨-, rfl⟩ := execWhiten_next h; simp [packetOf]
  | whitenpkt => obtain rfl := execWhitenpkt_next h; simp [packetOf]
  | build => exact absurd rfl hi
  | hostid => obtain rfl := execHostid_next h; simp [packetOf]

/-- The invariant does not speak of the requests still to be served. -/
theorem RunInv.setRequests (hs : RunInv s) (rest : List Request) : RunInv (s.setRequests rest) :=
  ⟨hs.table, hs.packets, hs.last⟩

/-- BUILD keeps the invariant: the new packet is sound, and `PKT` and `MSG` are its own. -/
theorem RunInv.execBuild (hs : RunInv s) {command : Half} {control0 control1 arg1 arg2 groupId : Byte}
    (h : execBuild command control0 control1 arg1 arg2 groupId s = .next t) : RunInv t := by
  obtain ⟨-, -, rfl⟩ := execBuild_next h
  refine ⟨?_, fun p hp => ?_, fun p hp => ?_⟩
  · rw [State.respond_crctab, State.buildPacket_crctab, hs.table]
  · rw [State.respond_responses, State.buildPacket_responses, List.mem_append, List.mem_singleton] at hp
    rw [State.respond_crctab, State.buildPacket_crctab, State.respond_template, State.buildPacket_template]
    obtain hold | hnew := hp
    · exact hs.packets p hold
    · obtain rfl := Response.packet.inj hnew
      exact State.buildPacket_packetSound hs.table command control0 control1 arg1 arg2 groupId
  · rw [State.respond_responses, lastPacket_append_packet] at hp
    obtain rfl := Option.some.inj hp
    exact ⟨rfl, State.messageInside_buildPacket_pkt command control0 control1 arg1 arg2 groupId⟩

/-- Every other operation keeps the invariant: the packets handed out, `PKT` and `MSG` are the earlier ones. -/
theorem RunInv.exec_of_not_build (hs : RunInv s) {i : Instr} (hi : opOf i ≠ 0b100) (h : exec i s = .next t) :
    RunInv t := by
  obtain ⟨-, htpl, htab⟩ := exec_configFixed h
  obtain ⟨hpkt, hmsg, reply, hresp, hreply⟩ := exec_keeps_pkt_msg hi h
  refine ⟨htab.trans hs.table, fun p hp => ?_, fun p hp => ?_⟩
  · rw [hresp, List.mem_append, List.mem_singleton] at hp
    rw [htab, htpl]
    obtain hold | rfl := hp
    · exact hs.packets p hold
    · cases hreply
  · rw [hresp, lastPacket_append_of_packetOf_eq_none hreply] at hp
    rw [hpkt, hmsg]
    exact hs.last p hp

/-- Serving an operation keeps the invariant. -/
theorem RunInv.exec (hs : RunInv s) {i : Instr} (h : exec i s = .next t) : RunInv t := by
  cases i with
  | build => exact hs.execBuild h
  | crc16 | revbits | whiten | whitenpkt | hostid => exact hs.exec_of_not_build (by simp [opOf]) h

/-- Settles O18: a step that waits changes nothing, and one that serves a request runs an operation, which keeps the
invariant. -/
theorem everyStepKeepsTheRunInvariant : Obligations.EveryStepKeepsTheRunInvariant := by
  intro s t hs h
  obtain ⟨-, rfl⟩ | ⟨r, rest, i, -, -, hexec⟩ := step_next h
  · exact hs
  · exact (hs.setRequests rest).exec hexec

/-- Settles O19: the table is the generated one, and there is no response to speak of. -/
theorem runInvariantHoldsAtReset : Obligations.RunInvariantHoldsAtReset :=
  ⟨rfl, fun _ hp => absurd hp List.not_mem_nil, fun _ hp => nomatch hp⟩

end Sys2Proof.Machine
end

section
/-! What a step leaves unchanged, and the state after reset. -/

namespace Sys2Proof.Machine

/-- Settles O13: waiting changes nothing, and serving an operation fixes the configuration. -/
theorem constantsAndParametersNeverChange : Obligations.ConstantsAndParametersNeverChange := by
  intro s t h
  obtain ⟨-, rfl⟩ | ⟨r, rest, i, -, -, hexec⟩ := step_next h
  · exact ⟨rfl, rfl, rfl⟩
  · simpa only [ConfigFixed, State.setRequests_cfg, State.setRequests_template, State.setRequests_crctab]
      using exec_configFixed hexec

/-- Settles O6: it is the equation of `step` for the empty sequence. -/
theorem stepWaitsWhenNothingIsIssued : Obligations.StepWaitsWhenNothingIsIssued := by
  intro s hs
  simp only [step, hs]

/-- Settles O14: the fields of the reset state. -/
theorem resetHoldsTheConstantsAndNothingIsPending : Obligations.ResetHoldsTheConstantsAndNothingIsPending :=
  ⟨rfl, rfl, rfl, rfl, rfl, rfl⟩

end Sys2Proof.Machine
end

section
/-! Which working storage an operation writes, and what BUILD leaves unchanged. -/

namespace Sys2Proof.Machine

/-- Settles O15: where an operation does not write a register or buffer (R51), the field rules of its answer keep it;
where it does, its own `op` is among those listed. -/
theorem workingStorageTouchedOnlyByItsOperations : Obligations.WorkingStorageTouchedOnlyByItsOperations := by
  intro i s t h
  cases i with
  | crc16 => obtain ⟨-, -, rfl⟩ := execCrc16_next h; simp [opOf]
  | revbits => obtain rfl := execRevbits_next h; simp [opOf]
  | whiten => obtain ⟨-, rfl⟩ := execWhiten_next h; simp [opOf]
  | whitenpkt => obtain rfl := execWhitenpkt_next h; simp [opOf]
  | build => obtain ⟨-, -, rfl⟩ := execBuild_next h; simp [opOf, State.buildPacket_idb]
  | hostid => obtain rfl := execHostid_next h; simp [opOf]

/-- Settles O42: the configuration and the requests stay as under every operation, and the six steps keep `IDB`, make
one draw and end with the register where the 38 staged bytes leave it. -/
theorem buildLeavesTheRestUnchanged : Obligations.BuildLeavesTheRestUnchanged := by
  intro s command control0 control1 arg1 arg2 groupId t h
  obtain ⟨hcfg, htpl, htab⟩ := exec_configFixed h
  obtain ⟨hreq, -⟩ := exec_requests_responses h
  obtain ⟨hdraws, hfixture⟩ : t.draws = s.draws + 1 ∧ t.nonceFixture = s.nonceFixture.tail := by
    simpa only [opOf, if_true] using nonceDrawnExactlyOncePerBuild _ s t h
  obtain ⟨-, -, ht⟩ := execBuild_next h
  have hidb : t.idb = s.idb := by rw [ht, State.respond_idb, State.buildPacket_idb]
  have hlfsr : t.lfsr = 0x45#7 := by rw [ht, State.respond_lfsr, State.buildPacket_lfsr]
  exact ⟨hidb, htab, htpl, hcfg, hreq, hdraws, hfixture, hlfsr⟩

end Sys2Proof.Machine
end

section
/-! The operation map: what the decoder reads for each `op` value (R82, R83), and that it reads back what the encoder
asks for. -/

namespace Sys2Proof.Machine

variable {r : Request}

theorem decode_of_op_crc16 (h : r.op = 0b000) : decode r = .ok (.crc16 r.buffer r.length r.offset) := by
  simp [decode, h]

theorem decode_of_op_revbits (h : r.op = 0b001) : decode r = .ok (.revbits r.buffer25) := by
  simp [decode, h]

theorem decode_of_op_whiten (h : r.op = 0b010) : decode r = .ok (.whiten r.buffer r.seed) := by
  simp [decode, h]

theorem decode_of_op_whitenpkt (h : r.op = 0b011) : decode r = .ok (.whitenpkt r.message) := by
  simp [decode, h]

theorem decode_of_op_build (h : r.op = 0b100) :
    decode r = .ok (.build r.command r.control0 r.control1 r.arg1 r.arg2 r.groupId) := by
  simp [decode, h]

theorem decode_of_op_hostid (h : r.op = 0b101) : decode r = .ok (.hostid r.idValid r.stableId) := by
  simp [decode, h]

theorem decode_of_op_reserved (h : r.op = 6 ∨ r.op = 7) : decode r = .error .reservedOp := by
  obtain h | h := h <;> simp [decode, h]

/-- Settles O2: the equation of the decoder for each value of `op`. -/
theorem operationMapReadsTheNamedPorts : Obligations.OperationMapReadsTheNamedPorts :=
  fun _ => ⟨decode_of_op_crc16, decode_of_op_revbits, decode_of_op_whiten, decode_of_op_whitenpkt, decode_of_op_build,
    decode_of_op_hostid, fun h => decode_of_op_reserved (.inl h), fun h => decode_of_op_reserved (.inr h)⟩

/-- Settles O1: the encoder selects the operation's `op`, and the ports this `op` names hold the operands. -/
theorem decodeOfEncodeGivesTheOperation : Obligations.DecodeOfEncodeGivesTheOperation := by
  intro i
  cases i with
  | crc16 => exact decode_of_op_crc16 rfl
  | revbits => exact decode_of_op_revbits rfl
  | whiten => exact decode_of_op_whiten rfl
  | whitenpkt => exact decode_of_op_whitenpkt rfl
  | build => exact decode_of_op_build rfl
  | hostid => exact decode_of_op_hostid rfl

/-- Settles O3: the words select these `op` values, and the ports of `Request.ofOp` are at rest. -/
theorem sampleWordsDecodeAsTheTableSays : Obligations.SampleWordsDecodeAsTheTableSays :=
  ⟨congrArg Except.toOption (decode_of_op_crc16 rfl), congrArg Except.toOption (decode_of_op_whiten rfl),
    congrArg Except.toOption (decode_of_op_build rfl), congrArg Except.toOption (decode_of_op_hostid rfl),
    congrArg Except.toOption (decode_of_op_reserved (.inl rfl)),
    congrArg Except.toOption (decode_of_op_reserved (.inr rfl))⟩

/-- The decoder rejects the reserved `op` values and no other (R83). -/
theorem decode_eq_error_iff {e : DecodeError} : decode r = .error e ↔ r.op = 6 ∨ r.op = 7 := by
  refine ⟨fun h => ?_, decode_of_op_reserved⟩
  obtain ho | ho | ho | ho | ho | ho | ho := op_cases r.op
  · cases (decode_of_op_crc16 ho).symm.trans h
  · cases (decode_of_op_revbits ho).symm.trans h
  · cases (decode_of_op_whiten ho).symm.trans h
  · cases (decode_of_op_whitenpkt ho).symm.trans h
  · cases (decode_of_op_build ho).symm.trans h
  · cases (decode_of_op_hostid ho).symm.trans h
  · exact ho

end Sys2Proof.Machine
end

section
/-! Who refuses for which reason: the operations never answer `ReservedOp`, so a step does for the decoder only. -/

namespace Sys2Proof.Machine

variable {s : State} {why : Refusal}

/-- CRC16 refuses for the length of its buffer or for its range (R193). -/
theorem execCrc16_refused {buffer : List Byte} {length offset : Nat}
    (h : execCrc16 buffer length offset s = .refused why) : why = .bufTooLong ∨ why = .crcRange := by
  unfold execCrc16 at h
  split_ifs at h
  · exact .inl (Host.Outcome.refused.inj h).symm
  · exact .inr (Host.Outcome.refused.inj h).symm

/-- WHITEN refuses for the length of its buffer (R193). -/
theorem execWhiten_refused {buffer : List Byte} {seed : Byte} (h : execWhiten buffer seed s = .refused why) :
    why = .bufTooLong := by
  unfold execWhiten at h
  split_ifs at h
  exact (Host.Outcome.refused.inj h).symm

/-- BUILD refuses for its command or for its group (R193). -/
theorem execBuild_refused {command : Half} {control0 control1 arg1 arg2 groupId : Byte}
    (h : execBuild command control0 control1 arg1 arg2 groupId s = .refused why) :
    why = .commandRange ∨ why = .groupRange := by
  unfold execBuild at h
  split_ifs at h
  · exact .inl (Host.Outcome.refused.inj h).symm
  · exact .inr (Host.Outcome.refused.inj h).symm

/-- No operation answers `ReservedOp` (R83, R193). -/
theorem exec_ne_reservedOp (i : Instr) (s : State) : exec i s ≠ .refused .reservedOp := by
  intro h
  cases i with
  | crc16 => obtain h | h := execCrc16_refused h <;> cases h
  | whiten => cases execWhiten_refused h
  | build => obtain h | h := execBuild_refused h <;> cases h
  | revbits | whitenpkt | hostid => cases h

/-- Settles O5: a step that waits or runs an operation does not answer `ReservedOp`, so the decoder has rejected the
request; and a reserved `op` is the first reason of R195. -/
theorem stepRefusesExactlyTheReservedOps : Obligations.StepRefusesExactlyTheReservedOps := by
  intro s
  refine ⟨fun h => ?_, fun ⟨r, rest, hr, hop⟩ => step_of_refusalOf hr (if_pos hop)⟩
  cases hr : s.requests with
  | nil => cases (stepWaitsWhenNothingIsIssued s hr).symm.trans h
  | cons r rest =>
    cases hd : decode r with
    | ok i => exact absurd ((step_eq_exec hr hd).symm.trans h) (exec_ne_reservedOp i _)
    | error e => exact ⟨r, rest, rfl, decode_eq_error_iff.mp hd⟩

end Sys2Proof.Machine
end

section
/-! The host's strip of a packet's first byte. -/

namespace Sys2Proof.Machine

/-- Settles O54: the radio's byte `k` is the packet's byte `1 + k` (R81, R87). -/
theorem payloadIsThePacketWithoutItsFirstByte : Obligations.PayloadIsThePacketWithoutItsFirstByte := by
  intro pkt k
  simp only [payload, Fin.getElem_fin, Vector.getElem_ofFn]

end Sys2Proof.Machine
end

section
/-! The CRC unit (spec 40_crc.md): the table against its listing, the byte step on naturals and in its bit-serial form,
and the one-byte case of error detection. -/

namespace Sys2Proof.Machine

/-- The accumulator with a byte XORed into its high half: the table index on top, the old low byte below it. -/
theorem acc_xor_high_byte (acc : Half) (b : Byte) :
    acc ^^^ (b.setWidth 16 <<< 8) =
      ((crcIndex acc b).setWidth 16 <<< 8) ^^^ (acc.extractLsb' 0 8).setWidth 16 := by
  ext i hi
  by_cases h : i < 8
  · simp [h, BitVec.getLsbD_eq_getElem hi]
  · simp [crcIndex, h, show 8 + (i - 8) = i by omega, show i - 8 < 8 by omega, BitVec.getLsbD_eq_getElem hi]

/-- Moving the low byte up is shifting the accumulator: the high byte falls out. -/
theorem low_byte_shifted_up (acc : Half) : (acc.extractLsb' 0 8).setWidth 16 <<< 8 = acc <<< 8 := by
  ext i hi
  simp [show i - 8 < 8 by omega, BitVec.getLsbD_eq_getElem (show i - 8 < 16 by omega)]

/-- The table step is the bit-serial step (R106): the rounds are linear, so they act on the index, where they are the
table's generating rule, and on the low byte, which they move up. -/
theorem crcStep_crcTable_eq_bitSerial (acc : Half) (b : Byte) : crcStep crcTable acc b = crcBitSerialStep acc b :=
  calc
    crcStep crcTable acc b = crcTableEntry (crcIndex acc b) ^^^ (acc <<< 8) := crcStep_crcTable acc b
    _ = crcShift8 ((crcIndex acc b).setWidth 16 <<< 8) ^^^ crcShift8 ((acc.extractLsb' 0 8).setWidth 16) := by
      rw [crcShift8_low, low_byte_shifted_up, crcTableEntry]
    _ = crcBitSerialStep acc b := by rw [← crcShift8_xor, ← acc_xor_high_byte, crcBitSerialStep]

theorem crcOver_crcTable_eq_bitSerial (bytes : List Byte) : crcOver crcTable bytes = crcBitSerial bytes := by
  rw [crcOver, crcBitSerial, funext₂ crcStep_crcTable_eq_bitSerial, crcInit]

/-- Settles O22: linearity of the rounds for the step, and the same fold over the bytes. -/
theorem crcStepEqualsTheBitSerialForm : Obligations.CrcStepEqualsTheBitSerialForm :=
  ⟨crcStep_crcTable_eq_bitSerial, crcOver_crcTable_eq_bitSerial⟩

/-- Settles O26: the step over the changed byte tells the two bytes apart, and the steps after it keep different
accumulators different. -/
theorem crcTellsOneChangedByteApart : Obligations.CrcTellsOneChangedByteApart := by
  intro before after a b hab h
  simp only [crcOver, List.foldl_append, List.foldl_cons] at h
  exact hab (crcStep_injective_byte _ a b (crcFold_injective_acc after _ _ h))

/-- The generated table is the listing of R104. -/
theorem crcTable_toList_eq_listing : crcTable.toList = crcTableListing := by
  decide +kernel

/-- Settles O20: the listing by evaluation, the entries and the round by their definitions. -/
theorem crcTableIsTheListing : Obligations.CrcTableIsTheListing :=
  ⟨crcTable_toList_eq_listing, by rw [← crcTable_toList_eq_listing, Vector.length_toList],
    fun b => ⟨crcTable_getElem b b.isLt, fun _ => rfl⟩⟩

/-- The index of R102 on naturals. -/
theorem crcIndex_toNat (acc : Half) (b : Byte) : (crcIndex acc b).toNat = (acc.toNat >>> 8) ^^^ b.toNat := by
  have hacc : acc.toNat >>> 8 < 2 ^ 8 := by have := acc.isLt; omega
  rw [crcIndex, BitVec.toNat_xor, BitVec.extractLsb'_toNat, Nat.mod_eq_of_lt hacc]

/-- Settles O21: the index is a byte, so the table has an entry there and masking it, or `b`, changes nothing. -/
theorem crcByteStepOnNaturals : Obligations.CrcByteStepOnNaturals := by
  intro tab acc b
  have hindex : (acc.toNat >>> 8) ^^^ b.toNat < 256 := crcIndex_toNat acc b ▸ (crcIndex acc b).isLt
  refine ⟨⟨hindex, ?_⟩, Nat.and_two_pow_sub_one_of_lt_two_pow (n := 8) hindex,
    congrArg (_ ^^^ ·) (Nat.and_two_pow_sub_one_of_lt_two_pow b.isLt)⟩
  simp only [crcStep, BitVec.toNat_xor, BitVec.toNat_shiftLeft, crcIndex_toNat]

end Sys2Proof.Machine
end

section
/-! CRC16 requests (spec 40_crc.md R100, R105, R107): what is answered inside the contract and refused outside it. -/

namespace Sys2Proof.Machine

variable {s : State}

theorem bufferFits_iff {cfg : Config} {buffer : List Byte} :
    bufferFits cfg buffer = true ↔ ∀ m, cfg.bufMax = some m → buffer.length ≤ m := by
  unfold bufferFits
  cases cfg.bufMax <;> simp

theorem rangeInside_iff {buffer : List Byte} {length offset : Nat} :
    rangeInside buffer length offset = true ↔ offset + length ≤ buffer.length :=
  decide_eq_true_iff

/-- Settles O10: the check of the buffer comes first in both operations, the check of the range after it (R195). -/
theorem bufferRefusalsAndTheirPriority : Obligations.BufferRefusalsAndTheirPriority := by
  refine fun s buffer => ⟨fun m length offset seed hm hlen => ?_, fun length offset hfit hrange => ?_⟩
  · have hb : bufferFits s.cfg buffer = false :=
      Bool.eq_false_iff.mpr fun h => absurd (bufferFits_iff.mp h m hm) (by omega)
    exact ⟨by simp [exec, execCrc16, hb], by simp [exec, execWhiten, hb]⟩
  · have hb : bufferFits s.cfg buffer = true := bufferFits_iff.mpr hfit
    have hr : rangeInside buffer length offset = false :=
      Bool.eq_false_iff.mpr fun h => absurd (rangeInside_iff.mp h) (by omega)
    simp [exec, execCrc16, hb, hr]

/-- CRC16 inside its contract, with the next state written out. -/
theorem exec_crc16_of_inside {buffer : List Byte} {length offset : Nat}
    (hfit : ∀ m, s.cfg.bufMax = some m → buffer.length ≤ m) (hrange : offset + length ≤ buffer.length) :
    exec (.crc16 buffer length offset) s =
      .next { s with
        acc := crc16 s.crctab buffer length offset
        responses := s.responses ++ [.crc16 (crc16 s.crctab buffer length offset)] } :=
  execCrc16_of_inside (bufferFits_iff.mpr hfit) (rangeInside_iff.mpr hrange)

/-- The reply to a CRC16 request inside its contract is the checksum of its range. -/
theorem replyOf_crc16_of_inside {buffer : List Byte} {length offset : Nat}
    (hfit : ∀ m, s.cfg.bufMax = some m → buffer.length ≤ m) (hrange : offset + length ≤ buffer.length) :
    replyOf (exec (.crc16 buffer length offset) s) = .ok (some (.crc16 (crc16 s.crctab buffer length offset))) := by
  rw [replyOf_crc16, if_pos (bufferFits_iff.mpr hfit), if_pos (rangeInside_iff.mpr hrange)]

/-- The bytes of a range inside the buffer, read one after the other (R54). -/
theorem slice_eq_map_getD {buffer : List Byte} {length offset : Nat} (h : offset + length ≤ buffer.length) :
    slice buffer length offset = (List.range length).map fun i => buffer.getD (offset + i) 0 := by
  apply List.ext_getElem
  · simp [slice_length h]
  · intro i hi _
    rw [slice_length h] at hi
    simp [slice, show offset + i < buffer.length by omega]

/-- A slice is determined by the bytes its range names. -/
theorem slice_congr {buffer buffer' : List Byte} {length offset offset' : Nat}
    (h : ∀ i, i < length → buffer[offset + i]? = buffer'[offset' + i]?) :
    slice buffer length offset = slice buffer' length offset' := by
  apply List.ext_getElem?
  intro i
  by_cases hi : i < length
  · rw [slice_getElem? _ _ _ _ hi, slice_getElem? _ _ _ _ hi, h i hi]
  · simp [slice, hi]

/-- The slice of a whole buffer is the buffer. -/
theorem slice_self (buffer : List Byte) : slice buffer buffer.length 0 = buffer :=
  List.take_length

/-- Settles O23: the range is read byte by byte, and the checksum over the table is the bit-serial one (R106). -/
theorem crc16AnswersTheChecksumOfItsRange : Obligations.Crc16AnswersTheChecksumOfItsRange := by
  intro s buffer length offset htab hfit hrange
  refine ⟨_, rfl, ?_⟩
  rw [exec_crc16_of_inside hfit hrange, crc16, htab, crcOver_crcTable_eq_bitSerial, slice_eq_map_getD hrange]

theorem crc16_of_length_zero (tab : Vector Half 256) (buffer : List Byte) (offset : Nat) :
    crc16 tab buffer 0 offset = 0xFFFF := by
  rw [crc16, slice, List.take_zero, crcOver, List.foldl_nil, crcInit]

/-- Settles O24: no byte leaves the initial value, and the reply is a function of the bytes in the range. -/
theorem crcOfNothingAndOfEqualRanges : Obligations.CrcOfNothingAndOfEqualRanges := by
  refine ⟨fun s buffer offset hfit hoffset => ?_,
    fun s buffer buffer' length offset offset' hfit hrange hrange' h => ?_⟩
  · rw [exec_crc16_of_inside hfit hoffset, crc16_of_length_zero]
  · rw [replyOf_crc16_of_inside (fun m hm => (hfit m hm).1) hrange,
      replyOf_crc16_of_inside (fun m hm => (hfit m hm).2) hrange', crc16, crc16, slice_congr h]

/-- A sequence followed by its own checksum, most significant byte first, has checksum zero (R107 (c)). -/
theorem crcOver_append_own_bytes (data : List Byte) :
    crcOver crcTable (data ++
      [(crcOver crcTable data).extractLsb' 8 8, (crcOver crcTable data).extractLsb' 0 8]) = 0 := by
  rw [crcOver, List.foldl_append]
  exact crcStep_own_bytes _

/-- Settles O25: the answer `c` is the checksum of the data, and the data followed by it has residue zero. -/
theorem crcResidueOfDataAndChecksumIsZero : Obligations.CrcResidueOfDataAndChecksumIsZero := by
  intro s data c htab hfit hreply
  have hc : c = crcOver crcTable data := by
    rw [replyOf_crc16_of_inside (fun m hm => by have := hfit m hm; omega) (by omega), crc16, slice_self, htab] at hreply
    cases hreply
    rfl
  have hlen : (data ++ [c.extractLsb' 8 8, c.extractLsb' 0 8]).length = data.length + 2 := List.length_append
  rw [replyOf_crc16_of_inside (hlen ▸ hfit) (by omega), crc16, ← hlen, slice_self, htab, hc,
    crcOver_append_own_bytes]

/-- Settles O49: the Message of a BUILD has residue zero, and the 14 bytes at offset 11 lie inside its 25. -/
theorem builtMessageHasResidueZero : Obligations.BuiltMessageHasResidueZero := by
  intro s s' t command control0 control1 arg1 arg2 groupId htab htab' hfit h
  obtain ⟨-, -, rfl⟩ := execBuild_next h
  have hres := State.buildPacket_msg_residue htab command control0 control1 arg1 arg2 groupId
  rw [htab] at hres
  rw [replyOf_crc16_of_inside (by simpa using hfit) (by simp), htab', State.respond_msg, hres]

end Sys2Proof.Machine
end

section
/-! The bit-reversal unit (spec 41_bitrev.md): `rev8` as a map of the 256 bytes, and the REVBITS requests built on
it. -/

namespace Sys2Proof.Machine

/-- The weighted form of R121: bit `i` of the byte counts with the weight of bit `7 - i`. -/
theorem rev8_toNat (b : Byte) : (rev8 b).toNat =
    (b.getLsbD 0).toNat * 128 + (b.getLsbD 1).toNat * 64 + (b.getLsbD 2).toNat * 32 + (b.getLsbD 3).toNat * 16 +
      (b.getLsbD 4).toNat * 8 + (b.getLsbD 5).toNat * 4 + (b.getLsbD 6).toNat * 2 + (b.getLsbD 7).toNat := by
  have hbits : (rev8 b).toNat = Nat.ofBits fun i : Fin 8 => b.getLsbD (7 - i.val) := BitVec.toNat_ofFnLE _
  simp only [hbits, Nat.ofBits, Fin.foldr_succ, Fin.foldr_zero, Fin.val_succ, Fin.val_zero, Nat.reduceAdd,
    Nat.reduceSub]
  omega

/-- The fixed points of R121: the palindromes among the 256 bytes. -/
theorem rev8_eq_self_iff : ∀ b : Byte, rev8 b = b ↔
    b ∈ ([0x00, 0x18, 0x24, 0x3C, 0x42, 0x5A, 0x66, 0x7E, 0x81, 0x99, 0xA5, 0xBD, 0xC3, 0xDB, 0xE7, 0xFF] :
      List Byte) := by
  decide

/-- Settles O28: `rev8` undoes itself, hence it is a permutation; its fixed points are listed by evaluation. -/
theorem rev8IsAPermutationWithItsSixteenFixedPoints : Obligations.Rev8IsAPermutationWithItsSixteenFixedPoints :=
  ⟨rev8_getLsbD, rev8_toNat, Function.Involutive.bijective rev8_rev8, rev8_eq_self_iff⟩

/-- REVBITS in any state, with the next state written out (R120). -/
theorem exec_revbits (buffer : Vector Byte 25) (s : State) :
    exec (.revbits buffer) s =
      .next { s with
        rev := reverseBits buffer
        responses := s.responses ++ [.revbits (reverseBits buffer)] } := by
  rw [exec, execRevbits, State.setRev, State.respond]

/-- Settles O27: `REV` and the response are the reversal of the operand, each lane the `rev8` of its own byte. -/
theorem revbitsReversesEachByteInItsLane : Obligations.RevbitsReversesEachByteInItsLane := by
  refine fun s x => ⟨decodeOfEncodeGivesTheOperation _, rfl, reverseBits x, exec_revbits x s, fun k i hi => ?_⟩
  rw [Fin.getElem_fin, reverseBits_getElem, rev8_getLsbD _ _ hi, Fin.getElem_fin]

/-- Settles O29: the first reply fixes `r` as the reversal of `x`, and the reversal undoes itself. -/
theorem revbitsTwiceGivesTheBufferBack : Obligations.RevbitsTwiceGivesTheBufferBack := by
  refine ⟨rev8_rev8, fun s s' x r h => ?_⟩
  obtain rfl : reverseBits x = r := by simpa [replyOf_revbits] using h
  rw [replyOf_revbits, reverseBits_reverseBits]

end Sys2Proof.Machine
end

section
/-! The whitening register (spec 42_whiten.md R133, R136): its advance bit by bit, the state that stays, and the one
cycle of all the others. -/

namespace Sys2Proof.Machine

/-- Settles O30: a shift moves every bit up by one, and where bit 6 is set the mask touches bits 4 and 0. -/
theorem lfsrAdvanceBitByBit : Obligations.LfsrAdvanceBitByBit := by
  intro l
  cases h : l.getLsbD 6 <;> simp [lfsrNext, keyBit, h, -BitVec.getLsbD_eq_getElem]

@[simp] theorem lfsrNext_zero : lfsrNext 0 = 0 := by decide

/-- The zero state stays (R136). -/
theorem lfsrNext_iterate_zero (n : Nat) : lfsrNext^[n] 0 = 0 :=
  Function.iterate_fixed lfsrNext_zero n

/-- No other state stays. -/
theorem eq_zero_of_lfsrNext_fixed : ∀ l : Lfsr, lfsrNext l = l → l = 0 := by decide

/-- 127 advances give every state back. -/
theorem lfsrNext_iterate_127 : ∀ l : Lfsr, lfsrNext^[127] l = l := by decide +kernel

variable {l : Lfsr}

/-- The period divides the prime 127 and is not 1. -/
theorem minimalPeriod_lfsrNext (hl : l ≠ 0) : Function.minimalPeriod lfsrNext l = 127 :=
  haveI : Fact (Nat.Prime 127) := ⟨by norm_num⟩
  Function.minimalPeriod_eq_prime (lfsrNext_iterate_127 l) fun h => hl (eq_zero_of_lfsrNext_fixed l h)

theorem lfsrNext_iterate_ne_zero (hl : l ≠ 0) {n : Nat} (hn : n ≤ 127) : lfsrNext^[n] l ≠ 0 := by
  intro h
  have hback : lfsrNext^[127 - n + n] l = 0 := by
    rw [Function.iterate_add_apply, h, lfsrNext_iterate_zero]
  rw [Nat.sub_add_cancel hn, lfsrNext_iterate_127] at hback
  exact hl hback

/-- The 127 states met from a non-zero state are distinct and non-zero, so they are all the non-zero states. -/
theorem exists_lfsrNext_iterate_eq (hl : l ≠ 0) {m : Lfsr} (hm : m ≠ 0) : ∃ n < 127, lfsrNext^[n] l = m := by
  have hinj : Set.InjOn (lfsrNext^[·] l) (Finset.range 127 : Finset Nat) := by
    have := Function.iterate_injOn_Iio_minimalPeriod (f := lfsrNext) (x := l)
    rwa [minimalPeriod_lfsrNext hl, ← Finset.coe_Iio, Nat.Iio_eq_range] at this
  have hmaps : Set.MapsTo (lfsrNext^[·] l) (Finset.range 127 : Finset Nat) (Finset.univ.erase (0 : Lfsr)) := by
    intro n hn
    simpa using lfsrNext_iterate_ne_zero hl (Finset.mem_range.mp hn).le
  have hcard : (Finset.univ.erase (0 : Lfsr)).card = 127 := by
    rw [Finset.card_erase_of_mem (Finset.mem_univ _), Finset.card_univ, ← FinEnum.card_eq_fintypeCard,
      FinEnum.card_bitVec]
    rfl
  obtain ⟨n, hn, hnm⟩ := Finset.surjOn_of_injOn_of_card_le _ hmaps hinj (hcard.trans (Finset.card_range 127).symm).le
    (by simpa using hm)
  exact ⟨n, Finset.mem_range.mp hn, hnm⟩

/-- In the zero state the register leaves every buffer as it is. -/
theorem whitenFrom_zero (x : List Byte) : (whitenFrom 0 x).2 = x := by
  have hkey : (whitenByte 0 0).2 = 0 := by decide
  refine List.ext_getElem (whitenFrom_length 0 x) fun i _ hi => ?_
  rw [whitenFrom_getElem _ _ _ hi, lfsrNext_iterate_zero, hkey]
  exact BitVec.xor_zero

/-- Settles O34: the period is the prime 127, and the distinct states of one period are all the non-zero ones. -/
theorem lfsrPeriodIs127AndZeroStays : Obligations.LfsrPeriodIs127AndZeroStays := by
  refine ⟨lfsrNext_zero, fun x seed h => ?_, fun l hl => ⟨lfsrNext_iterate_127 l, fun n h0 hn => ?_,
    fun m hm => exists_lfsrNext_iterate_eq hl hm⟩⟩
  · rw [whiten, seedState, h, whitenFrom_zero]
  · exact Function.not_isPeriodicPt_of_pos_of_lt_minimalPeriod h0.ne' (by rwa [minimalPeriod_lfsrNext hl])

end Sys2Proof.Machine
end

section
/-! WHITEN requests (spec 42_whiten.md R130 to R138): the output bit by bit, and what follows from the keystream being
the same for every buffer. -/

namespace Sys2Proof.Machine

theorem whiten_length (x : List Byte) (seed : Byte) : (whiten x seed).2.length = x.length :=
  whitenFrom_length _ x

/-- An output byte is the data byte XOR the keystream byte of its position (R135). -/
theorem whiten_getD (x : List Byte) (seed : Byte) {i : Nat} (hi : i < x.length) :
    (whiten x seed).2.getD i 0 = x.getD i 0 ^^^ (whitenByte (lfsrNext^[8 * i] (seedState seed)) 0).2 := by
  rw [List.getD_eq_getElem _ _ ((whiten_length x seed).symm ▸ hi), List.getD_eq_getElem _ _ hi]
  exact whitenFrom_getElem (seedState seed) x i hi

theorem keystream_getD (seed : Byte) {n i : Nat} (hi : i < n) :
    (keystream seed n).getD i 0 = (whitenByte (lfsrNext^[8 * i] (seedState seed)) 0).2 := by
  rw [keystream, whiten_getD _ _ (by simpa using hi)]
  simp [hi]

/-- Bit `j` of the keystream byte at position `i` is `LFSR[6]` after `8 i + j` advances (R132, R135). -/
theorem keystream_getD_getLsbD (seed : Byte) {n i j : Nat} (hi : i < n) (hj : j < 8) :
    ((keystream seed n).getD i 0).getLsbD j = (lfsrNext^[8 * i + j] (seed.setWidth 7)).getLsbD 6 := by
  have hzero : (0 : Byte).getLsbD j = false := BitVec.getLsbD_zero
  rw [keystream_getD seed hi, whitenByte_getLsbD _ _ _ hj, hzero, Bool.false_xor, ← Function.iterate_add_apply,
    Nat.add_comm j, keyBit, seedState]

/-- Settles O32: every buffer meets the same keystream byte at a position, the buffer of zeros too. -/
theorem keystreamDoesNotDependOnTheData : Obligations.KeystreamDoesNotDependOnTheData := by
  refine fun x seed i hi => ⟨?_, fun j hj => keystream_getD_getLsbD seed hi hj⟩
  rw [whiten_getD x seed hi, keystream_getD seed hi]

/-- WHITEN of a buffer within `BUF_MAX`, with the next state written out (R134). -/
theorem exec_whiten_of_fits {s : State} {x : List Byte} (hfit : ∀ m, s.cfg.bufMax = some m → x.length ≤ m)
    (seed : Byte) :
    exec (.whiten x seed) s =
      .next { s with
        lfsr := lfsrNext^[8 * x.length] (seed.setWidth 7)
        responses := s.responses ++ [.whiten (whiten x seed).2] } := by
  rw [exec, execWhiten_of_fits (bufferFits_iff.mpr hfit), State.runWhiten, whiten, whitenFrom_fst]
  rfl

/-- Settles O31: the next state is that of a buffer that fits, and its bytes are the data XOR the keystream. -/
theorem whitenAnswersDataXorKeystream : Obligations.WhitenAnswersDataXorKeystream := by
  refine fun s x seed hfit => ⟨(whiten x seed).2, exec_whiten_of_fits hfit seed, whiten_length x seed,
    fun i j hi hj => ?_⟩
  rw [(keystreamDoesNotDependOnTheData x seed i hi).1, BitVec.getLsbD_xor, keystream_getD_getLsbD seed hi hj]

/-- The register has no room for bit 7 of the seed (R131). -/
theorem seedState_flip_bit_seven (seed : Byte) : seedState (seed ^^^ 0x80) = seedState seed := by
  have hbit : (0x80 : Byte).setWidth 7 = (0 : Lfsr) := by decide
  rw [seedState, BitVec.setWidth_xor, hbit]
  exact BitVec.xor_zero

/-- Settles O33: WHITEN reads the seed through the register state alone. -/
theorem whitenIgnoresSeedBitSeven : Obligations.WhitenIgnoresSeedBitSeven := by
  intro s x seed
  have hwhiten : whiten x (seed ^^^ 0x80) = whiten x seed := by rw [whiten, seedState_flip_bit_seven, whiten]
  simp only [exec, execWhiten, State.runWhiten, hwhiten]

/-- Whitening undoes itself: each byte meets the same keystream byte both times (R137). -/
theorem whiten_whiten (x : List Byte) (seed : Byte) : (whiten (whiten x seed).2 seed).2 = x := by
  refine List.ext_getElem (by simp [whiten]) fun i _ hi => ?_
  simp only [whiten]
  rw [whitenFrom_getElem _ _ _ (by simpa using hi), whitenFrom_getElem _ _ _ hi, BitVec.xor_assoc, BitVec.xor_self,
    BitVec.xor_zero]

/-- The reply to WHITEN is a whitened buffer exactly when the buffer is within `BUF_MAX`. -/
theorem replyOf_whiten_eq_ok_iff {s : State} {x w : List Byte} {seed : Byte} :
    replyOf (exec (.whiten x seed) s) = .ok (some (.whiten w)) ↔
      bufferFits s.cfg x = true ∧ (whiten x seed).2 = w := by
  rw [replyOf_whiten]
  cases bufferFits s.cfg x <;> simp

/-- Settles O35: the response is as long as the buffer, so it is admitted where the buffer was, and whitening undoes
itself. -/
theorem whitenTwiceGivesTheBufferBack : Obligations.WhitenTwiceGivesTheBufferBack := by
  intro s s' x w seed hcfg h
  obtain ⟨hfit, rfl⟩ := replyOf_whiten_eq_ok_iff.mp h
  refine replyOf_whiten_eq_ok_iff.mpr ⟨?_, whiten_whiten x seed⟩
  rw [bufferFits_iff] at hfit ⊢
  rwa [hcfg, whiten_length]

/-- Every register state is that of a seed. -/
theorem seedState_setWidth (l : Lfsr) : seedState (l.setWidth 8) = l := by
  rw [seedState, BitVec.setWidth_setWidth_of_le _ (by decide), BitVec.setWidth_eq]

/-- Settles O36: the second part is whitened from the register the first leaves. -/
theorem whitenOfAConcatenation : Obligations.WhitenOfAConcatenation := by
  intro x y seed
  simp only [whiten, seedState_setWidth, whitenFrom_append, whitenFrom_fst]
  rfl

end Sys2Proof.Machine
end

section
/-! WHITENPKT requests (spec 42_whiten.md R139 to R142): the staged form, and the short forms that are theorems about
it. -/

namespace Sys2Proof.Machine

/-- WHITENPKT in any state, with the next state written out (R139). -/
theorem exec_whitenpkt (x : Vector Byte 25) (s : State) :
    exec (.whitenpkt x) s =
      .next { s with
        lfsr := 0x45
        wbuf := stage x
        responses := s.responses ++ [.whitenpkt (whitenForPacket x)] } := by
  simp only [exec, execWhitenpkt, State.runWhitenForPacket, State.runWhiten, whiten_staged_register, State.setLfsr,
    State.setWbuf, State.respond]
  rfl

/-- Settles O37: `WBUF` holds the staged bytes, and the response is the message XOR the key pad. -/
theorem whitenpktStagesAndAnswersTheKeyPad : Obligations.WhitenpktStagesAndAnswersTheKeyPad := by
  refine fun s x => ⟨stage x, whitenForPacket x, exec_whitenpkt x s, fun t => ?_, fun k => ?_,
    fun k => whitenForPacket_getElem_eq_xor_keyPad x k k.isLt⟩
  · simp [stage]
  · simp [stage]

/-- The short form of R141: whitening for a packet is whitening from the seed the padding leads to. -/
theorem whitenForPacket_toList (m : Vector Byte 25) : (whitenForPacket m).toList = (whiten m.toList 0x79).2 := by
  refine List.ext_getElem (by simp [whiten]) fun k hk _ => ?_
  rw [Vector.length_toList] at hk
  rw [Vector.getElem_toList, whitenForPacket_getElem m k hk]
  exact (whitenFrom_getElem 0x79#7 m.toList k (by simpa using hk)).symm

theorem replyOf_whitenpkt_eq_ok_iff {s : State} {x w : Vector Byte 25} :
    replyOf (exec (.whitenpkt x) s) = .ok (some (.whitenpkt w)) ↔ whitenForPacket x = w := by
  simp [replyOf_whitenpkt]

/-- Settles O38: the padding leads to 0x79, and 25 bytes from there are the packet form, which `BUF_MAX` admits. -/
theorem whitenpktEqualsWhitenWithTheAdvancedSeed : Obligations.WhitenpktEqualsWhitenWithTheAdvancedSeed := by
  refine ⟨by decide +kernel, fun s s' x w hfit => ?_⟩
  have hb : bufferFits s'.cfg x.toList = true := bufferFits_iff.mpr (by simpa using hfit)
  rw [replyOf_whitenpkt_eq_ok_iff, replyOf_whiten_eq_ok_iff, ← whitenForPacket_toList, Vector.toList_inj]
  exact (and_iff_right hb).symm

/-- Settles O39: the response is the packet form of the message, which undoes itself. -/
theorem whitenpktTwiceGivesTheMessageBack : Obligations.WhitenpktTwiceGivesTheMessageBack := by
  intro s s' x w h
  obtain rfl := replyOf_whitenpkt_eq_ok_iff.mp h
  exact replyOf_whitenpkt_eq_ok_iff.mpr (whitenForPacket_involutive x)

end Sys2Proof.Machine
end

section
/-! BUILD inside its contract (spec 43_builder.md R152 to R158): that it completes, and what the state it answers holds,
offset by offset of the Message and byte by byte of the packet. -/

namespace Sys2Proof.Machine

variable {s t : State} {command : Half} {control0 control1 arg1 arg2 groupId : Byte}

/-- Settles O11: `execBuild` checks the command first and the group after it (R195). -/
theorem buildRefusesCommandAndGroupOutOfRange : Obligations.BuildRefusesCommandAndGroupOutOfRange := by
  refine fun s command control0 control1 arg1 arg2 groupId => ⟨fun hcommand => ?_, fun hcommand hgroup => ?_⟩
  · have hwide : commandTooWide command = true := decide_eq_true hcommand
    rw [exec, execBuild, if_pos hwide]
  · have hwide : ¬ commandTooWide command = true := by simpa [commandInRange_iff_toNat] using hcommand
    have hlarge : groupTooLarge groupId = true := decide_eq_true hgroup
    rw [exec, execBuild, if_neg hwide, if_pos hlarge]

/-- BUILD completes on operands in range (R161). -/
theorem exec_build_completes (hcommand : command.toNat ≤ 0x00FF) (hgroup : groupId.toNat ≤ 15) (s : State)
    (control0 control1 arg1 arg2 : Byte) :
    ∃ t, exec (.build command control0 control1 arg1 arg2 groupId) s = .next t :=
  ⟨_, execBuild_of_inRange (commandInRange_iff_toNat.mpr hcommand) (groupInRange_iff_toNat.mpr hgroup)
    control0 control1 arg1 arg2⟩

/-- Before the checksum's two bytes the Message is the one R152 and R153 describe, with the drawn byte. -/
theorem exec_build_msg_getElem (h : exec (.build command control0 control1 arg1 arg2 groupId) s = .next t) (k : Nat)
    (hk : k < 23) :
    t.msg[k] = (hostMessage s.template command control0 control1 arg1 arg2 groupId s.nextNonce)[k] := by
  obtain ⟨-, -, rfl⟩ := execBuild_next h
  have hcrc : k ≠ 24 ∧ k ≠ 23 := by omega
  simp [State.buildPacket_msg, hostStoreCrc_getElem, State.fieldsOf, hcrc]

/-- `ACC` holds the checksum of the covered range of the Message BUILD leaves (R155). -/
theorem exec_build_acc (h : exec (.build command control0 control1 arg1 arg2 groupId) s = .next t) :
    t.acc = crc16 s.crctab t.msg.toList 12 11 := by
  obtain ⟨-, -, rfl⟩ := execBuild_next h
  rw [State.respond_acc, State.respond_msg, State.buildPacket_acc, State.buildPacket_msg, crc16, crc16,
    slice_hostStoreCrc]

/-- The checksum stands at offsets 23 and 24, most significant byte first (R155). -/
theorem exec_build_msg_crc (h : exec (.build command control0 control1 arg1 arg2 groupId) s = .next t) :
    t.msg[23] = hiByte t.acc ∧ t.msg[24] = loByte t.acc := by
  obtain ⟨-, -, rfl⟩ := execBuild_next h
  simp [State.buildPacket_msg, State.buildPacket_acc, hostStoreCrc_getElem]

/-- The offsets the fields and the nonce go to (R153, R154). -/
theorem exec_build_msg_fields (h : exec (.build command control0 control1 arg1 arg2 groupId) s = .next t) :
    t.msg[11] = opcodeByte command ∧ t.msg[12] = control0 ∧ t.msg[13] = hostGroupByte control1 groupId ∧
      t.msg[14] = arg1 ∧ t.msg[15] = arg2 ∧ t.msg[17] = s.nextNonce := by
  simp [exec_build_msg_getElem h, hostMessage_getElem]

/-- The offsets that keep the template's bytes (R152). -/
theorem exec_build_msg_kept (h : exec (.build command control0 control1 arg1 arg2 groupId) s = .next t) (k : Nat)
    (hk : k < 23) (hkept : k ≤ 10 ∨ k = 16 ∨ 18 ≤ k) : t.msg[k] = s.template[6 + k] := by
  have hfields : k ≠ 17 ∧ k ≠ 15 ∧ k ≠ 14 ∧ k ≠ 13 ∧ k ≠ 12 ∧ k ≠ 11 := by omega
  simp [exec_build_msg_getElem h k hk, hostMessage_getElem, hfields]

theorem opcodeByte_toNat (command : Half) : (opcodeByte command).toNat = command.toNat % 256 :=
  BitVec.extractLsb'_toNat ..

theorem hiByte_toNat (v : Half) : (hiByte v).toNat = v.toNat / 256 := by
  have := v.isLt
  rw [hiByte, BitVec.extractLsb'_toNat, Nat.shiftRight_eq_div_pow]
  omega

theorem loByte_toNat (v : Half) : (loByte v).toNat = v.toNat % 256 :=
  BitVec.extractLsb'_toNat ..

/-- The twelve covered bytes of a Message, one after the other. -/
theorem slice_covered (m : Vector Byte 25) :
    slice m.toList 12 11 = (List.finRange 12).map fun i => m[11 + i.val] := by
  refine List.ext_getElem (by simp [slice]) fun i hi _ => ?_
  simp [slice]

/-- Settles O40: the offsets before the checksum are those of the host's Message, and the accumulator is the bit-serial
checksum (R106) of the covered ones. -/
theorem buildFillsTheMessage : Obligations.BuildFillsTheMessage := by
  intro s command control0 control1 arg1 arg2 groupId htab hcommand hgroup
  obtain ⟨t, ht⟩ := exec_build_completes hcommand hgroup s control0 control1 arg1 arg2
  obtain ⟨h11, h12, h13, h14, h15, h17⟩ := exec_build_msg_fields ht
  obtain ⟨h23, h24⟩ := exec_build_msg_crc ht
  have hacc : t.acc = crcBitSerial ((List.finRange 12).map fun i => t.msg[11 + i.val]) := by
    rw [exec_build_acc ht, crc16, htab, crcOver_crcTable_eq_bitSerial, slice_covered]
  refine ⟨t, ht, fun k hk => exec_build_msg_kept ht k.val (by omega) (by omega), ?_, h12, h13, h14, h15, h17,
    t.acc, hacc, rfl, ?_, ?_⟩
  · rw [h11, opcodeByte_toNat]
  · rw [h23, hiByte_toNat]
  · rw [h24, loByte_toNat]

/-- `REV` is the reversed Message, `WBUF` its staging, and `PKT` the frame of its whitening, which is the response
(R156, R157, R158). -/
theorem exec_build_pipeline (h : exec (.build command control0 control1 arg1 arg2 groupId) s = .next t) :
    t.rev = reverseBits t.msg ∧ t.wbuf = stage t.rev ∧ t.pkt = frame s.template (whitenForPacket t.rev) ∧
      t.responses = s.responses ++ [.packet t.pkt] := by
  obtain ⟨-, -, rfl⟩ := execBuild_next h
  simp only [State.respond_rev, State.respond_msg, State.respond_wbuf, State.respond_pkt, State.respond_responses]
  exact ⟨State.buildPacket_rev s .., State.buildPacket_wbuf s .., State.buildPacket_pkt s ..,
    by rw [State.buildPacket_responses]⟩

/-- Header and trailer of the packet are the template's (R157). -/
theorem exec_build_pkt_outside (h : exec (.build command control0 control1 arg1 arg2 groupId) s = .next t) (i : Nat)
    (hi : i < 32) (hout : ¬ (6 ≤ i ∧ i < 31)) : t.pkt[i] = s.template[i] := by
  obtain ⟨-, -, hpkt, -⟩ := exec_build_pipeline h
  simp only [hpkt, frame_getElem, hout, dite_false]

/-- The body of the packet is the whitened reversal, byte by byte. -/
theorem exec_build_pkt_whitened (h : exec (.build command control0 control1 arg1 arg2 groupId) s = .next t) (k : Nat)
    (hk : k < 25) : t.pkt[6 + k] = (whitenForPacket t.rev)[k] := by
  obtain ⟨-, -, hpkt, -⟩ := exec_build_pipeline h
  have hbody : 6 ≤ 6 + k ∧ 6 + k < 31 := by omega
  simp [hpkt, frame_getElem, hbody]

/-- The body of the packet in the short form of R141. -/
theorem exec_build_pkt_body (h : exec (.build command control0 control1 arg1 arg2 groupId) s = .next t) (k : Nat)
    (hk : k < 25) : t.pkt[6 + k] = rev8 t.msg[k] ^^^ keyPad[k] := by
  obtain ⟨-, -, rfl⟩ := execBuild_next h
  simp only [State.respond_pkt, State.respond_msg]
  exact State.buildPacket_pkt_body command control0 control1 arg1 arg2 groupId k hk

/-- Settles O41: the three buffers by the pipeline of R156 and R157, read byte by byte. -/
theorem buildReversesWhitensAndFrames : Obligations.BuildReversesWhitensAndFrames := by
  intro s command control0 control1 arg1 arg2 groupId hcommand hgroup
  obtain ⟨t, ht⟩ := exec_build_completes hcommand hgroup s control0 control1 arg1 arg2
  obtain ⟨hrev, hwbuf, -, hresp⟩ := exec_build_pipeline ht
  refine ⟨t, ht, fun k => ?_, fun k => ?_, fun k => ?_, fun k => ?_, ?_, fun k => ⟨?_, ?_⟩, hresp⟩
  · simp only [hrev, Fin.getElem_fin, reverseBits_getElem]
  · simp [hwbuf, stage]
  · simp [hwbuf, stage]
  · exact exec_build_pkt_outside ht k.val _ (by omega)
  · exact exec_build_pkt_outside ht 31 _ (by omega)
  · exact exec_build_pkt_whitened ht k.val k.isLt
  · exact exec_build_pkt_body ht k.val k.isLt

/-- An admitted group id is its own low nibble. -/
theorem and_low_nibble (hgroup : groupId.toNat ≤ 15) : groupId &&& 0x0F = groupId := by
  apply BitVec.eq_of_toNat_eq
  rw [BitVec.toNat_and]
  exact Nat.and_two_pow_sub_one_of_lt_two_pow (n := 4) (by omega)

theorem hostGroupByte_low_nibble (control1 groupId : Byte) :
    hostGroupByte control1 groupId &&& 0x0F = groupId &&& 0x0F := by
  have hapart : (0xF0 : Byte) &&& 0x0F = 0#8 := by decide
  rw [hostGroupByte, BitVec.and_or_distrib_right, BitVec.and_assoc, hapart, BitVec.and_zero, BitVec.zero_or,
    BitVec.and_assoc, BitVec.and_self]

theorem hostGroupByte_high_nibble (control1 groupId : Byte) :
    (hostGroupByte control1 groupId).extractLsb' 4 4 = control1.extractLsb' 4 4 := by
  have hkeep : (0xF0 : Byte).extractLsb' 4 4 = BitVec.allOnes 4 := by decide
  have hdrop : (0x0F : Byte).extractLsb' 4 4 = 0#4 := by decide
  rw [hostGroupByte, BitVec.extractLsb'_or, BitVec.extractLsb'_and, BitVec.extractLsb'_and, hkeep, hdrop,
    BitVec.and_allOnes, BitVec.and_zero, BitVec.or_zero]

/-- Settles O44: offset 13 joins two nibbles that do not overlap. -/
theorem groupIdSitsInTheLowNibble : Obligations.GroupIdSitsInTheLowNibble := by
  intro s command control0 control1 arg1 arg2 groupId hcommand hgroup
  obtain ⟨t, ht⟩ := exec_build_completes hcommand hgroup s control0 control1 arg1 arg2
  obtain ⟨-, -, h13, -⟩ := exec_build_msg_fields ht
  refine ⟨t, ht, ?_, ?_⟩
  · rw [h13, hostGroupByte_low_nibble, and_low_nibble hgroup]
  · rw [h13, hostGroupByte_high_nibble]

/-- Settles O48: each request's reply is the next stage of the pipeline BUILD runs on the host's own Message. -/
theorem buildIsTheCompositionOfTheOtherOperations : Obligations.BuildIsTheCompositionOfTheOtherOperations := by
  intro s s1 s2 s3 command control0 control1 arg1 arg2 groupId m hcommand hgroup htab hfit hm
  refine ⟨_, _, _, replyOf_crc16_of_inside (by simpa using hfit) (by simp), replyOf_revbits _, replyOf_whitenpkt _, ?_⟩
  rw [replyOf_build, if_pos (commandInRange_iff_toNat.mpr hcommand), if_pos (groupInRange_iff_toNat.mpr hgroup),
    State.buildPacket_pkt_eq_frame_msg, State.buildPacket_msg, State.fieldsOf, ← hm, htab]

end Sys2Proof.Machine
end

section
/-! Which inputs of BUILD reach which byte of the packet (spec 43_builder.md R159, R160, R163): two admitted requests
compared, in any two states. -/

namespace Sys2Proof.Machine

theorem rev8_injective : Function.Injective rev8 := Function.Involutive.injective rev8_rev8

/-- The mask of R74 keeps the high nibble of `control1` and nothing else of it. -/
theorem and_high_nibble : ∀ b : Byte, b &&& (0xF0 : Byte) = (b.extractLsb' 4 4).setWidth 8 <<< 4 := by
  decide

theorem hostGroupByte_congr {control1 control1' : Byte} (h : control1.extractLsb' 4 4 = control1'.extractLsb' 4 4)
    (groupId : Byte) : hostGroupByte control1 groupId = hostGroupByte control1' groupId := by
  have hmask : control1 &&& 0xF0 = control1' &&& 0xF0 := by rw [and_high_nibble control1, h, ← and_high_nibble]
  rw [hostGroupByte, hmask, hostGroupByte]

/-- The two bytes of a checksum determine it. -/
theorem eq_of_hiByte_of_loByte {v v' : Half} (hhi : hiByte v = hiByte v') (hlo : loByte v = loByte v') : v = v' := by
  apply BitVec.eq_of_toNat_eq
  rw [← Nat.div_add_mod v.toNat 256, ← hiByte_toNat, ← loByte_toNat, hhi, hlo, hiByte_toNat, loByte_toNat,
    Nat.div_add_mod]

/-- The covered range of a Message, cut at the nonce. -/
theorem slice_covered_at_nonce (m : Vector Byte 25) :
    slice m.toList 12 11 = slice m.toList 6 11 ++ m[17] :: slice m.toList 5 18 := by
  have htail : m.toList.drop 17 = m[17] :: m.toList.drop 18 := List.drop_eq_getElem_cons (by simp)
  rw [slice, slice, slice, List.take_add (i := 6) (j := 6), List.drop_drop, htail, List.take_succ_cons]

/-- A range of a Message is determined by the bytes at its offsets. -/
theorem slice_toList_congr {m m' : Vector Byte 25} {length offset : Nat}
    (h : ∀ k (_ : k < 25), offset ≤ k → k < offset + length → m[k] = m'[k]) :
    slice m.toList length offset = slice m'.toList length offset := by
  refine slice_congr fun i hi => ?_
  by_cases hk : offset + i < 25
  · simpa [hk] using h (offset + i) hk (by omega) (by omega)
  · simp [hk]

section

variable {s s' t t' : State} {command command' : Half}
  {control0 control1 arg1 arg2 groupId control0' control1' arg1' arg2' groupId' : Byte}
  (h : exec (.build command control0 control1 arg1 arg2 groupId) s = .next t)
  (h' : exec (.build command' control0' control1' arg1' arg2' groupId') s' = .next t')
include h h'

/-- Reversing and whitening act on each byte by itself and lose nothing: body bytes agree exactly where Message bytes
do. -/
theorem exec_build_pkt_body_eq_iff (k : Nat) (hk : k < 25) : t.pkt[6 + k] = t'.pkt[6 + k] ↔ t.msg[k] = t'.msg[k] := by
  rw [exec_build_pkt_body h k hk, exec_build_pkt_body h' k hk, BitVec.xor_left_inj]
  exact rev8_injective.eq_iff

/-- A packet byte that no field, nonce or checksum reaches follows its own template byte (R160). -/
theorem exec_build_pkt_congr_of_template (i : Fin 32)
    (hi : i.val ≤ 16 ∨ i.val = 22 ∨ 24 ≤ i.val ∧ i.val ≤ 28 ∨ i.val = 31) (htpl : s.template[i] = s'.template[i]) :
    t.pkt[i] = t'.pkt[i] := by
  by_cases hbody : 6 ≤ i.val ∧ i.val < 31
  · obtain ⟨k, hk⟩ : ∃ k, i.val = 6 + k := Nat.exists_eq_add_of_le hbody.1
    simp only [Fin.getElem_fin, hk] at htpl ⊢
    rw [exec_build_pkt_body_eq_iff h h' k (by omega), exec_build_msg_kept h k (by omega) (by omega),
      exec_build_msg_kept h' k (by omega) (by omega), htpl]
  · simp only [Fin.getElem_fin] at htpl ⊢
    rw [exec_build_pkt_outside h _ _ hbody, exec_build_pkt_outside h' _ _ hbody, htpl]

/-- Packet bytes 29 and 30 carry the checksum, so they agree exactly when the checksums do. -/
theorem exec_build_pkt_crc_eq_iff : t.pkt[29] = t'.pkt[29] ∧ t.pkt[30] = t'.pkt[30] ↔ t.acc = t'.acc := by
  obtain ⟨hhi, hlo⟩ := exec_build_msg_crc h
  obtain ⟨hhi', hlo'⟩ := exec_build_msg_crc h'
  have h29 := exec_build_pkt_body_eq_iff h h' 23 (by decide)
  have h30 := exec_build_pkt_body_eq_iff h h' 24 (by decide)
  rw [hhi, hhi'] at h29
  rw [hlo, hlo'] at h30
  refine (and_congr h29 h30).trans ⟨fun ⟨hh, hl⟩ => eq_of_hiByte_of_loByte hh hl, fun hacc => ?_⟩
  rw [hacc]
  exact ⟨rfl, rfl⟩

/-- Equal covered bytes give equal checksums (R155). -/
theorem exec_build_acc_congr (htab : s.crctab = s'.crctab)
    (hmsg : ∀ k (_ : k < 25), 11 ≤ k → k < 11 + 12 → t.msg[k] = t'.msg[k]) : t.acc = t'.acc := by
  rw [exec_build_acc h, exec_build_acc h', crc16, crc16, slice_toList_congr hmsg, htab]

/-- Checksums of Messages that differ at the nonce only are different (R107 (d)). -/
theorem exec_build_acc_ne (htab : s.crctab = crcTable) (htab' : s'.crctab = crcTable)
    (hmsg : ∀ k (_ : k < 25), 11 ≤ k → k < 23 → k ≠ 17 → t.msg[k] = t'.msg[k]) (hn : t.msg[17] ≠ t'.msg[17]) :
    t.acc ≠ t'.acc := by
  have hbefore : slice t.msg.toList 6 11 = slice t'.msg.toList 6 11 :=
    slice_toList_congr fun k hk _ _ => hmsg k hk (by omega) (by omega) (by omega)
  have hafter : slice t.msg.toList 5 18 = slice t'.msg.toList 5 18 :=
    slice_toList_congr fun k hk _ _ => hmsg k hk (by omega) (by omega) (by omega)
  rw [exec_build_acc h, exec_build_acc h', htab, htab', crc16, crc16, slice_covered_at_nonce, slice_covered_at_nonce,
    hbefore, hafter]
  exact crcTellsOneChangedByteApart _ _ _ _ hn

end

/-- Settles O46: every body byte follows its own Message byte, and each of these is one input of the table of R160; the
checksum follows the twelve bytes it covers. -/
theorem eachPacketByteDependsOnItsOwnInputs : Obligations.EachPacketByteDependsOnItsOwnInputs := by
  intro s s' t t' command command' control0 control1 arg1 arg2 groupId control0' control1' arg1' arg2' groupId'
    htab h h'
  obtain ⟨h11, h12, h13, h14, h15, h17⟩ := exec_build_msg_fields h
  obtain ⟨h11', h12', h13', h14', h15', h17'⟩ := exec_build_msg_fields h'
  have hcommand (e : command = command') : t.msg[11] = t'.msg[11] := by rw [h11, h11', e]
  have hcontrol0 (e : control0 = control0') : t.msg[12] = t'.msg[12] := by rw [h12, h12', e]
  have hgroup (e : control1.extractLsb' 4 4 = control1'.extractLsb' 4 4) (e' : groupId = groupId') :
      t.msg[13] = t'.msg[13] := by rw [h13, h13', e', hostGroupByte_congr e]
  have harg1 (e : arg1 = arg1') : t.msg[14] = t'.msg[14] := by rw [h14, h14', e]
  have harg2 (e : arg2 = arg2') : t.msg[15] = t'.msg[15] := by rw [h15, h15', e]
  have hnonce (e : s.nextNonce = s'.nextNonce) : t.msg[17] = t'.msg[17] := by rw [h17, h17', e]
  have hbody := exec_build_pkt_body_eq_iff h h'
  refine ⟨exec_build_pkt_congr_of_template h h', fun e => (hbody 11 _).mpr (hcommand e),
    fun e => (hbody 12 _).mpr (hcontrol0 e), fun e e' => (hbody 13 _).mpr (hgroup e e'),
    fun e => (hbody 14 _).mpr (harg1 e), fun e => (hbody 15 _).mpr (harg2 e), fun e => (hbody 17 _).mpr (hnonce e),
    fun ec ec0 ec1 eg ea1 ea2 en e22 efill => ?_⟩
  refine (exec_build_pkt_crc_eq_iff h h').mpr (exec_build_acc_congr h h' htab fun k hk hlo hhi => ?_)
  by_cases hkept : k = 16 ∨ 18 ≤ k
  · rw [exec_build_msg_kept h k hhi (by omega), exec_build_msg_kept h' k hhi (by omega)]
    obtain rfl | hk18 := hkept
    · exact e22
    · exact efill ⟨6 + k, by omega⟩ (by dsimp only; omega) (by dsimp only; omega)
  · obtain rfl | rfl | rfl | rfl | rfl | rfl : k = 11 ∨ k = 12 ∨ k = 13 ∨ k = 14 ∨ k = 15 ∨ k = 17 := by omega
    · exact hcommand ec
    · exact hcontrol0 ec0
    · exact hgroup ec1 eg
    · exact harg1 ea1
    · exact harg2 ea2
    · exact hnonce en

/-- Off the nonce and the checksum, the packet follows the operands, of `control1` the high nibble, and the template
bytes BUILD keeps (R160). -/
theorem exec_build_pkt_congr_off_nonce_and_crc {s s' t t' : State} {command : Half}
    {control0 control1 control1' arg1 arg2 groupId : Byte} (htab : s.crctab = s'.crctab)
    (h : exec (.build command control0 control1 arg1 arg2 groupId) s = .next t)
    (h' : exec (.build command control0 control1' arg1 arg2 groupId) s' = .next t')
    (hcontrol1 : control1.extractLsb' 4 4 = control1'.extractLsb' 4 4)
    (htpl : ∀ i : Fin 32, i.val < 17 ∨ i.val = 22 ∨ (24 ≤ i.val ∧ i.val ≤ 28) ∨ i.val = 31 →
      s.template[i] = s'.template[i])
    (i : Fin 32) (h23 : i.val ≠ 23) (h29 : i.val ≠ 29) (h30 : i.val ≠ 30) : t.pkt[i] = t'.pkt[i] := by
  obtain ⟨hkept, h17, h18, h19, h20, h21, -, -⟩ :=
    eachPacketByteDependsOnItsOwnInputs _ _ _ _ _ _ _ _ _ _ _ _ _ _ _ _ htab h h'
  by_cases hi : 17 ≤ i.val ∧ i.val ≤ 21
  · obtain hi | hi | hi | hi | hi : i.val = 17 ∨ i.val = 18 ∨ i.val = 19 ∨ i.val = 20 ∨ i.val = 21 := by omega
    all_goals simp only [Fin.getElem_fin, hi]
    · exact h17 rfl
    · exact h18 rfl
    · exact h19 hcontrol1 rfl
    · exact h20 rfl
    · exact h21 rfl
  · exact hkept i (by omega) (htpl i (by omega))

/-- Settles O47: the bytes off the nonce and the checksum do not see the dropped inputs, and the nonce byte and the
checksum's do not either. -/
theorem droppedInputsHaveNoEffect : Obligations.DroppedInputsHaveNoEffect := by
  intro s s' t t' command control0 control1 control1' arg1 arg2 groupId htab hnonce hcontrol1 htpl h h'
  obtain ⟨-, -, -, -, -, -, h23, hcrc⟩ :=
    eachPacketByteDependsOnItsOwnInputs _ _ _ _ _ _ _ _ _ _ _ _ _ _ _ _ htab h h'
  obtain ⟨h29, h30⟩ := hcrc rfl rfl hcontrol1 rfl rfl rfl hnonce (htpl 22 (by decide)) fun i hlo hhi =>
    htpl i (by omega)
  refine Vector.ext fun i hi => ?_
  by_cases hoff : i ≠ 23 ∧ i ≠ 29 ∧ i ≠ 30
  · obtain ⟨n23, n29, n30⟩ := hoff
    exact exec_build_pkt_congr_off_nonce_and_crc htab h h' hcontrol1 htpl ⟨i, hi⟩ n23 n29 n30
  · obtain rfl | rfl | rfl : i = 23 ∨ i = 29 ∨ i = 30 := by omega
    · exact h23 hnonce
    · exact h29
    · exact h30

/-- Settles O45: the nonce reaches its own Message byte and, as one changed byte of the twelve, the checksum. -/
theorem nonceChangesThreePacketBytesOnly : Obligations.NonceChangesThreePacketBytesOnly := by
  intro s s' t t' command control0 control1 arg1 arg2 groupId htab htab' htpl h h'
  have htabs : s.crctab = s'.crctab := htab.trans htab'.symm
  have htpls (i : Fin 32) : s.template[i] = s'.template[i] := by rw [htpl]
  have hoff := exec_build_pkt_congr_off_nonce_and_crc htabs h h' rfl fun i _ => htpls i
  have hbody := exec_build_pkt_body_eq_iff h h'
  refine ⟨fun hn => ?_, hoff, fun hn => ?_⟩
  · exact droppedInputsHaveNoEffect _ _ _ _ _ _ _ _ _ _ _ htabs hn rfl (fun i _ => htpls i) h h'
  · obtain ⟨-, -, -, -, -, h17⟩ := exec_build_msg_fields h
    obtain ⟨-, -, -, -, -, h17'⟩ := exec_build_msg_fields h'
    have hmsg17 : t.msg[17] ≠ t'.msg[17] := by rwa [h17, h17']
    have hacc : t.acc ≠ t'.acc := exec_build_acc_ne h h' htab htab'
      (fun k hk hlo hhi hne => (hbody k hk).mp
        (hoff ⟨6 + k, by omega⟩ (by dsimp only; omega) (by dsimp only; omega) (by dsimp only; omega))) hmsg17
    exact ⟨fun e => hmsg17 ((hbody 17 _).mp e),
      not_and_or.mp fun e => hacc ((exec_build_pkt_crc_eq_iff h h').mp e)⟩

end Sys2Proof.Machine
end

section
/-! HOSTID (spec 44_hostid.md): the identifier bytes, the answer with its next state, and the fallback's host ids. -/

namespace Sys2Proof.Machine

/-- Byte `n` of an identifier counted from the least significant, as the digit of weight `256 ^ n` (R172). -/
theorem ident_byte_toNat (id : Ident) (n : Nat) : (id.extractLsb' (8 * n) 8).toNat = id.toNat / 256 ^ n % 256 := by
  rw [BitVec.extractLsb'_toNat, Nat.shiftRight_eq_div_pow, Nat.pow_mul]

theorem idBytes_le_getElem_toNat (id : Ident) (k : Fin 4) :
    (idBytes .le id)[k].toNat = id.toNat / 256 ^ k.val % 256 := by
  simp only [idBytes, Fin.getElem_fin, Vector.getElem_ofFn, idByte, ident_byte_toNat]

theorem idBytes_be_getElem_toNat (id : Ident) (k : Fin 4) :
    (idBytes .be id)[k].toNat = id.toNat / 256 ^ (3 - k.val) % 256 := by
  simp only [idBytes, Fin.getElem_fin, Vector.getElem_ofFn, idByte, ident_byte_toNat]

/-- HOSTID reads all of `IDB`, in index order (R173). -/
theorem slice_idb (b : Vector Byte 4) : slice b.toList 4 0 = [b[0], b[1], b[2], b[3]] := by
  refine List.ext_getElem (by simp [slice]) fun i _ (hi : i < 4) => ?_
  interval_cases i <;> simp [slice]

/-- HOSTID completes on every operand (R170), with `IDB` and `ACC` as it leaves them (R34, log entries 10 and 11). -/
theorem exec_hostid (idValid : Bool) (stableId : Ident) (s : State) :
    exec (.hostid idValid stableId) s =
      let b := idBytes s.cfg.hostidByteOrder (effectiveId idValid stableId)
      let c := crc16 s.crctab b.toList 4 0
      .next { s with acc := c, idb := b, responses := s.responses ++ [.hostid (hiByte c) (loByte c)] } :=
  rfl

/-- Settles O51: the bytes of `IDB` are digits of the identifier, and the checksum over the table is the bit-serial one
(R106). -/
theorem hostidAnswersTheChecksumOfTheIdentifierBytes : Obligations.HostidAnswersTheChecksumOfTheIdentifierBytes := by
  rintro s idValid stableId id htab rfl
  refine ⟨_, _, _, _, exec_hostid idValid stableId s, fun k => ?_, ?_, hiByte_toNat _, loByte_toNat _⟩
  · cases s.cfg.hostidByteOrder with
    | le => exact idBytes_le_getElem_toNat _ k
    | be => exact idBytes_be_getElem_toNat _ k
  · rw [crc16, htab, slice_idb, crcOver_crcTable_eq_bitSerial]

/-- Section 6 of 95_test_vectors.md, least significant byte first. -/
theorem crc16_fallbackId_le : crc16 crcTable (idBytes .le fallbackId).toList 4 0 = 0xA6BD := by decide +kernel

/-- Section 6 of 95_test_vectors.md, most significant byte first. -/
theorem crc16_fallbackId_be : crc16 crcTable (idBytes .be fallbackId).toList 4 0 = 0x104F := by decide +kernel

/-- `HOSTID none` ignores the identifier port (R170, R171). -/
theorem effectiveId_none (anything : Ident) : effectiveId false anything = fallbackId := rfl

/-- Settles O52: both requests work on `fallbackId`, and its two checksums are known. -/
theorem hostidNoneIsTheFallbackIdentifier : Obligations.HostidNoneIsTheFallbackIdentifier := by
  refine fun s anything => ⟨rfl, fun htab horder => ?_, fun htab horder => ?_⟩
  · rw [replyOf_hostid, effectiveId_none, htab, horder, crc16_fallbackId_le]
    rfl
  · rw [replyOf_hostid, effectiveId_none, htab, horder, crc16_fallbackId_be]
    rfl

/-- Settles O53: the reply is written in the operands, `CRCTAB` and the byte order. -/
theorem hostidDependsOnItsIdentifierOnly : Obligations.HostidDependsOnItsIdentifierOnly := by
  intro s s' idValid stableId htab horder
  rw [replyOf_hostid, replyOf_hostid, htab, horder]

end Sys2Proof.Machine
end

section
/-! Runs in which no request is refused (R188). -/

namespace Sys2Proof.Machine

/-- Settles O7: under `NoRefusal` the whole sequence is a prefix of requests inside the contract, with nothing issued
after it. -/
theorem admittedRunAnswersEveryRequest : Obligations.AdmittedRunAnswersEveryRequest := by
  intro s hadmitted
  obtain ⟨t, new, hrun, -, hreq, hresp, hlen⟩ :=
    core_run_serves_prefix s.requests [] (List.append_nil _).symm hadmitted
  refine ⟨t, hrun, hreq, ?_, new, hresp⟩
  rw [hresp, List.length_append, hlen]

end Sys2Proof.Machine
end

section
/-! Admission (spec 60_exceptions.md R193): the operations served are the ones inside the contract. -/

namespace Sys2Proof.Machine

variable {s t : State}

/-- An operation that is served was inside the contract: each meaning passed its own checks (R182, R193). -/
theorem wellFormed_of_exec_next {i : Instr} (h : exec i s = .next t) : i.wellFormed s.cfg = true := by
  cases i with
  | crc16 =>
    obtain ⟨hbuffer, hrange, -⟩ := execCrc16_next h
    exact Bool.and_eq_true_iff.mpr ⟨hbuffer, hrange⟩
  | whiten => exact (execWhiten_next h).left
  | build =>
    obtain ⟨hcommand, hgroup, -⟩ := execBuild_next h
    exact Bool.and_eq_true_iff.mpr ⟨hcommand, hgroup⟩
  | revbits | whitenpkt | hostid => rfl

/-- Settles O9: being served needs the checks of the contract, and they are all it needs. -/
theorem admittedExactlyInsideTheContract : Obligations.AdmittedExactlyInsideTheContract :=
  fun _ _ => ⟨fun ⟨_, h⟩ => wellFormed_of_exec_next h, exec_next_of_wellFormed⟩

end Sys2Proof.Machine
end
